-- ==== Sys2Proof/Word.lean ====
section
/-!
DEFINITION. The word types of the core: bytes, the 20-bit counts and addresses, and the 32-bit host words
(00_scope.md R7: BYTE, W_ADDR, W_CMD). Every value is unsigned (R8).
-/

namespace Sys2Proof

/-- One element of BUF, one combiner input or output (R7, BYTE). -/
abbrev Byte := BitVec 8

/-- A BUF address, LEN, NREC or a record number (R7, W_ADDR = 20 bits). -/
abbrev Count := BitVec 20

/-- A host command word or a response word (R7, W_CMD = 32 bits; R205: never split into bytes). -/
abbrev HostWord := BitVec 32

end Sys2Proof
end

