-- ==== Sys2Proof/Syntax.lean ====
section
/-!
DEFINITION. The abstract syntax: the field ids of RDREC and the host commands, one constructor for each row of
spec/opcode_table.json (30_encoding.md R309, R313, R314).
-/

namespace Sys2Proof

/-- The 76 fields of a program record that RDREC can name (30_encoding.md R313), under the source's identifiers
(00_scope.md R10). -/
inductive Field where
  | index
  | groupNum
  | groupMask
  | number
  | vcfRel
  | vcaRel
  | vcfDcy
  | vcaDcy
  | vcfAtk
  | vcaAtk
  | vcfSus
  | vcaSus
  | vcfMod
  | vcfRes
  | oscPWM
  | lfoFreq
  | fmAmnt
  | pwmAmnt
  | portAmt
  | osc2Detune
  | vcfFreq
  | vco2Freq
  | vco1Freq
  | lfoTrigPoint
  | pedalSustn
  | fmVibRaise
  | pwmVibRaise
  | fmVibDelay
  | pwmVibDelay
  | voiceDetune
  | bendAmount
  | unison
  | filterFM
  | osc2FM
  | osc2PWM
  | osc1PWM
  | noise
  | fourPole
  | osc2On
  | osc2Half
  | osc1On
  | kbdTrack
  | pw1180
  | vco1180
  | vcaMod
  | fEnv
  | sync
  | osc1FM
  | spare
  | legato
  | portBend
  | lfoTrack
  | fmDlyInvert
  | portQuant
  | portMatch
  | flag180
  | flag90
  | pwmDlyInvert
  | pwmQuant
  | expoPort
  | constPort
  | lfoRateDelay
  | fmQuant
  | osc2Wave
  | osc1Wave
  | lfoWave
  | trigLfoWave
  | volume
  | vco2PW
  | osc2WaveTri
  | osc2WaveSqr
  | osc1WaveTri
  | osc1WaveSqr
  | lfoWaveTri
  | lfoWaveSqr
  | lfoWaveSnH
deriving DecidableEq, Repr

/-- A host command, one constructor for each row of spec/opcode_table.json. RDREC has a row for each field id; the
operand `k` is the record number. A reserved encoding is a row of its own and keeps the bits the row leaves open. -/
inductive Instr where
  /-- NOP (43_host_commands.md R701). -/
  | nop
  /-- WRBUF a, d (R702). -/
  | wrbuf (a : Count) (d : Byte)
  /-- RDBUF a (R703). -/
  | rdbuf (a : Count)
  /-- WRLEN n (R704). -/
  | wrlen (n : Count)
  /-- RDLEN (R705). -/
  | rdlen
  /-- START (42_bank_decoder.md R602). -/
  | start
  /-- RDSTAT (R706). -/
  | rdstat
  /-- RDNREC (R707). -/
  | rdnrec
  -- RDREC k, f (R708), one row for each field id of R313.
  | rdrecIndex (k : Count)
  | rdrecGroupNum (k : Count)
  | rdrecGroupMask (k : Count)
  | rdrecNumber (k : Count)
  | rdrecVcfRel (k : Count)
  | rdrecVcaRel (k : Count)
  | rdrecVcfDcy (k : Count)
  | rdrecVcaDcy (k : Count)
  | rdrecVcfAtk (k : Count)
  | rdrecVcaAtk (k : Count)
  | rdrecVcfSus (k : Count)
  | rdrecVcaSus (k : Count)
  | rdrecVcfMod (k : Count)
  | rdrecVcfRes (k : Count)
  | rdrecOscPWM (k : Count)
  | rdrecLfoFreq (k : Count)
  | rdrecFmAmnt (k : Count)
  | rdrecPwmAmnt (k : Count)
  | rdrecPortAmt (k : Count)
  | rdrecOsc2Detune (k : Count)
  | rdrecVcfFreq (k : Count)
  | rdrecVco2Freq (k : Count)
  | rdrecVco1Freq (k : Count)
  | rdrecLfoTrigPoint (k : Count)
  | rdrecPedalSustn (k : Count)
  | rdrecFmVibRaise (k : Count)
  | rdrecPwmVibRaise (k : Count)
  | rdrecFmVibDelay (k : Count)
  | rdrecPwmVibDelay (k : Count)
  | rdrecVoiceDetune (k : Count)
  | rdrecBendAmount (k : Count)
  | rdrecUnison (k : Count)
  | rdrecFilterFM (k : Count)
  | rdrecOsc2FM (k : Count)
  | rdrecOsc2PWM (k : Count)
  | rdrecOsc1PWM (k : Count)
  | rdrecNoise (k : Count)
  | rdrecFourPole (k : Count)
  | rdrecOsc2On (k : Count)
  | rdrecOsc2Half (k : Count)
  | rdrecOsc1On (k : Count)
  | rdrecKbdTrack (k : Count)
  | rdrecPw1180 (k : Count)
  | rdrecVco1180 (k : Count)
  | rdrecVcaMod (k : Count)
  | rdrecFEnv (k : Count)
  | rdrecSync (k : Count)
  | rdrecOsc1FM (k : Count)
  | rdrecSpare (k : Count)
  | rdrecLegato (k : Count)
  | rdrecPortBend (k : Count)
  | rdrecLfoTrack (k : Count)
  | rdrecFmDlyInvert (k : Count)
  | rdrecPortQuant (k : Count)
  | rdrecPortMatch (k : Count)
  | rdrecFlag180 (k : Count)
  | rdrecFlag90 (k : Count)
  | rdrecPwmDlyInvert (k : Count)
  | rdrecPwmQuant (k : Count)
  | rdrecExpoPort (k : Count)
  | rdrecConstPort (k : Count)
  | rdrecLfoRateDelay (k : Count)
  | rdrecFmQuant (k : Count)
  | rdrecOsc2Wave (k : Count)
  | rdrecOsc1Wave (k : Count)
  | rdrecLfoWave (k : Count)
  | rdrecTrigLfoWave (k : Count)
  | rdrecVolume (k : Count)
  | rdrecVco2PW (k : Count)
  | rdrecOsc2WaveTri (k : Count)
  | rdrecOsc2WaveSqr (k : Count)
  | rdrecOsc1WaveTri (k : Count)
  | rdrecOsc1WaveSqr (k : Count)
  | rdrecLfoWaveTri (k : Count)
  | rdrecLfoWaveSqr (k : Count)
  | rdrecLfoWaveSnH (k : Count)
  /-- RDREC with a reserved field id 0x4C..0x4F (R314). -/
  | rdrecReserved4C (k : Count) (f : Byte)
  /-- RDREC with a reserved field id 0x50..0x5F (R314). -/
  | rdrecReserved50 (k : Count) (f : Byte)
  /-- RDREC with a reserved field id 0x60..0x7F (R314). -/
  | rdrecReserved60 (k : Count) (f : Byte)
  /-- RDREC with a reserved field id 0x80..0xFF (R314). -/
  | rdrecReserved80 (k : Count) (f : Byte)
  /-- COMBINE l, m (R709): `l` is the lsb operand, `m` the msb operand. -/
  | combine (l m : Byte)
  /-- A reserved operation code 0xA or 0xB (R710); `low` is bits 27..0 of the word. -/
  | reservedOpAB (op : BitVec 4) (low : BitVec 28)
  /-- A reserved operation code 0xC..0xF (R710); `low` is bits 27..0 of the word. -/
  | reservedOpCF (op : BitVec 4) (low : BitVec 28)
deriving DecidableEq, Repr

end Sys2Proof
end

