-- ==== Sys2Proof/WellFormed.lean ====
section
/-!
DEFINITION. Well-formed commands: the operands that a row of spec/opcode_table.json admits. The operand types hold
every other command to its widths already, so only the reserved rows have something to check.
-/

namespace Sys2Proof

/-- Whether the operands lie in the ranges of the command's row: a reserved field id in the row's range
(30_encoding.md R314), a reserved operation code in the row's range (43_host_commands.md R710). -/
def Instr.wellFormed : Instr → Bool
  | .nop => true
  | .wrbuf _ _ => true
  | .rdbuf _ => true
  | .wrlen _ => true
  | .rdlen => true
  | .start => true
  | .rdstat => true
  | .rdnrec => true
  | .rdrecIndex _ => true
  | .rdrecGroupNum _ => true
  | .rdrecGroupMask _ => true
  | .rdrecNumber _ => true
  | .rdrecVcfRel _ => true
  | .rdrecVcaRel _ => true
  | .rdrecVcfDcy _ => true
  | .rdrecVcaDcy _ => true
  | .rdrecVcfAtk _ => true
  | .rdrecVcaAtk _ => true
  | .rdrecVcfSus _ => true
  | .rdrecVcaSus _ => true
  | .rdrecVcfMod _ => true
  | .rdrecVcfRes _ => true
  | .rdrecOscPWM _ => true
  | .rdrecLfoFreq _ => true
  | .rdrecFmAmnt _ => true
  | .rdrecPwmAmnt _ => true
  | .rdrecPortAmt _ => true
  | .rdrecOsc2Detune _ => true
  | .rdrecVcfFreq _ => true
  | .rdrecVco2Freq _ => true
  | .rdrecVco1Freq _ => true
  | .rdrecLfoTrigPoint _ => true
  | .rdrecPedalSustn _ => true
  | .rdrecFmVibRaise _ => true
  | .rdrecPwmVibRaise _ => true
  | .rdrecFmVibDelay _ => true
  | .rdrecPwmVibDelay _ => true
  | .rdrecVoiceDetune _ => true
  | .rdrecBendAmount _ => true
  | .rdrecUnison _ => true
  | .rdrecFilterFM _ => true
  | .rdrecOsc2FM _ => true
  | .rdrecOsc2PWM _ => true
  | .rdrecOsc1PWM _ => true
  | .rdrecNoise _ => true
  | .rdrecFourPole _ => true
  | .rdrecOsc2On _ => true
  | .rdrecOsc2Half _ => true
  | .rdrecOsc1On _ => true
  | .rdrecKbdTrack _ => true
  | .rdrecPw1180 _ => true
  | .rdrecVco1180 _ => true
  | .rdrecVcaMod _ => true
  | .rdrecFEnv _ => true
  | .rdrecSync _ => true
  | .rdrecOsc1FM _ => true
  | .rdrecSpare _ => true
  | .rdrecLegato _ => true
  | .rdrecPortBend _ => true
  | .rdrecLfoTrack _ => true
  | .rdrecFmDlyInvert _ => true
  | .rdrecPortQuant _ => true
  | .rdrecPortMatch _ => true
  | .rdrecFlag180 _ => true
  | .rdrecFlag90 _ => true
  | .rdrecPwmDlyInvert _ => true
  | .rdrecPwmQuant _ => true
  | .rdrecExpoPort _ => true
  | .rdrecConstPort _ => true
  | .rdrecLfoRateDelay _ => true
  | .rdrecFmQuant _ => true
  | .rdrecOsc2Wave _ => true
  | .rdrecOsc1Wave _ => true
  | .rdrecLfoWave _ => true
  | .rdrecTrigLfoWave _ => true
  | .rdrecVolume _ => true
  | .rdrecVco2PW _ => true
  | .rdrecOsc2WaveTri _ => true
  | .rdrecOsc2WaveSqr _ => true
  | .rdrecOsc1WaveTri _ => true
  | .rdrecOsc1WaveSqr _ => true
  | .rdrecLfoWaveTri _ => true
  | .rdrecLfoWaveSqr _ => true
  | .rdrecLfoWaveSnH _ => true
  | .rdrecReserved4C _ f => decide (0x4C ≤ f.toNat) && decide (f.toNat ≤ 0x4F)
  | .rdrecReserved50 _ f => decide (0x50 ≤ f.toNat) && decide (f.toNat ≤ 0x5F)
  | .rdrecReserved60 _ f => decide (0x60 ≤ f.toNat) && decide (f.toNat ≤ 0x7F)
  | .rdrecReserved80 _ f => decide (0x80 ≤ f.toNat)
  | .combine _ _ => true
  | .reservedOpAB op _ => decide (op = 0xA#4) || decide (op = 0xB#4)
  | .reservedOpCF op _ => decide (0xC ≤ op.toNat)

end Sys2Proof
end

