-- ==== Sys2Proof/Decode.lean ====
section
/-!
DEFINITION. The host command word (30_encoding.md R308 to R310, R313, R314): its fields, the decoder, total on any word
and rejecting by name, and the encoder. A word is one 32-bit value with bit 31 most significant; it is never split
into bytes (20_memory.md R205).
-/

namespace Sys2Proof

/-- Why a word is no row of the opcode table. -/
inductive DecodeError where
  /-- R310: a must-be-zero bit is set in a word with operation code `op`. The step raises ILLEGAL_CMD for it
  (60_exceptions.md R803); safe. -/
  | mustBeZero (op : BitVec 4)
deriving DecidableEq, Repr

/-- R308: OP, bits 31..28. -/
def cmdOp (w : HostWord) : BitVec 4 := w.extractLsb' 28 4

/-- R308: A, bits 27..8. -/
def cmdA (w : HostWord) : Count := w.extractLsb' 8 20

/-- R308: D, bits 7..0, and COMBINE's L. -/
def cmdD (w : HostWord) : Byte := w.extractLsb' 0 8

/-- R308: COMBINE's M, bits 15..8. -/
def cmdM (w : HostWord) : Byte := w.extractLsb' 8 8

/-- R308: bits 27..16, which COMBINE requires to be 0. -/
def cmdHigh (w : HostWord) : BitVec 12 := w.extractLsb' 16 12

/-- Bits 27..0: all of a word but its operation code. -/
def cmdLow (w : HostWord) : BitVec 28 := w.extractLsb' 0 28

/-- R313: the field id of a field. -/
def Field.id : Field → Byte
  | .index => 0x00
  | .groupNum => 0x01
  | .groupMask => 0x02
  | .number => 0x03
  | .vcfRel => 0x04
  | .vcaRel => 0x05
  | .vcfDcy => 0x06
  | .vcaDcy => 0x07
  | .vcfAtk => 0x08
  | .vcaAtk => 0x09
  | .vcfSus => 0x0A
  | .vcaSus => 0x0B
  | .vcfMod => 0x0C
  | .vcfRes => 0x0D
  | .oscPWM => 0x0E
  | .lfoFreq => 0x0F
  | .fmAmnt => 0x10
  | .pwmAmnt => 0x11
  | .portAmt => 0x12
  | .osc2Detune => 0x13
  | .vcfFreq => 0x14
  | .vco2Freq => 0x15
  | .vco1Freq => 0x16
  | .lfoTrigPoint => 0x17
  | .pedalSustn => 0x18
  | .fmVibRaise => 0x19
  | .pwmVibRaise => 0x1A
  | .fmVibDelay => 0x1B
  | .pwmVibDelay => 0x1C
  | .voiceDetune => 0x1D
  | .bendAmount => 0x1E
  | .unison => 0x1F
  | .filterFM => 0x20
  | .osc2FM => 0x21
  | .osc2PWM => 0x22
  | .osc1PWM => 0x23
  | .noise => 0x24
  | .fourPole => 0x25
  | .osc2On => 0x26
  | .osc2Half => 0x27
  | .osc1On => 0x28
  | .kbdTrack => 0x29
  | .pw1180 => 0x2A
  | .vco1180 => 0x2B
  | .vcaMod => 0x2C
  | .fEnv => 0x2D
  | .sync => 0x2E
  | .osc1FM => 0x2F
  | .spare => 0x30
  | .legato => 0x31
  | .portBend => 0x32
  | .lfoTrack => 0x33
  | .fmDlyInvert => 0x34
  | .portQuant => 0x35
  | .portMatch => 0x36
  | .flag180 => 0x37
  | .flag90 => 0x38
  | .pwmDlyInvert => 0x39
  | .pwmQuant => 0x3A
  | .expoPort => 0x3B
  | .constPort => 0x3C
  | .lfoRateDelay => 0x3D
  | .fmQuant => 0x3E
  | .osc2Wave => 0x3F
  | .osc1Wave => 0x40
  | .lfoWave => 0x41
  | .trigLfoWave => 0x42
  | .volume => 0x43
  | .vco2PW => 0x44
  | .osc2WaveTri => 0x45
  | .osc2WaveSqr => 0x46
  | .osc1WaveTri => 0x47
  | .osc1WaveSqr => 0x48
  | .lfoWaveTri => 0x49
  | .lfoWaveSqr => 0x4A
  | .lfoWaveSnH => 0x4B

/-- R313: the header fields, ids 0x00..0x03, in id order. -/
def fieldHeaders : List Field :=
  [.index, .groupNum, .groupMask, .number]

/-- R313: the continuous fields, ids 0x04..0x1E, in id order. -/
def fieldContinuous : List Field :=
  [.vcfRel, .vcaRel, .vcfDcy, .vcaDcy, .vcfAtk, .vcaAtk, .vcfSus, .vcaSus, .vcfMod, .vcfRes, .oscPWM,
   .lfoFreq, .fmAmnt, .pwmAmnt, .portAmt, .osc2Detune, .vcfFreq, .vco2Freq, .vco1Freq, .lfoTrigPoint,
   .pedalSustn, .fmVibRaise, .pwmVibRaise, .fmVibDelay, .pwmVibDelay, .voiceDetune, .bendAmount]

/-- R313: the flags, ids 0x1F..0x3E, in id order. -/
def fieldFlags : List Field :=
  [.unison, .filterFM, .osc2FM, .osc2PWM, .osc1PWM, .noise, .fourPole, .osc2On, .osc2Half, .osc1On,
   .kbdTrack, .pw1180, .vco1180, .vcaMod, .fEnv, .sync, .osc1FM, .spare, .legato, .portBend, .lfoTrack,
   .fmDlyInvert, .portQuant, .portMatch, .flag180, .flag90, .pwmDlyInvert, .pwmQuant, .expoPort, .constPort,
   .lfoRateDelay, .fmQuant]

/-- R313: the selectors and composites, ids 0x3F..0x44, in id order. -/
def fieldSelectors : List Field :=
  [.osc2Wave, .osc1Wave, .lfoWave, .trigLfoWave, .volume, .vco2PW]

/-- R313: the derived flags, ids 0x45..0x4B, in id order. -/
def fieldDeriveds : List Field :=
  [.osc2WaveTri, .osc2WaveSqr, .osc1WaveTri, .osc1WaveSqr, .lfoWaveTri, .lfoWaveSqr, .lfoWaveSnH]

/-- R313: all the fields in the canonical order, so that a field stands at its id. -/
def fieldTable : List Field :=
  fieldHeaders ++ fieldContinuous ++ fieldFlags ++ fieldSelectors ++ fieldDeriveds

/-- R313: the field with a given id; `none` for the reserved ids 0x4C..0xFF (R314). -/
def Field.ofId (f : Byte) : Option Field := fieldTable[f.toNat]?

/-- The RDREC command of the opcode table's row for a field. -/
def rdrecInstr (k : Count) : Field → Instr
  | .index => .rdrecIndex k
  | .groupNum => .rdrecGroupNum k
  | .groupMask => .rdrecGroupMask k
  | .number => .rdrecNumber k
  | .vcfRel => .rdrecVcfRel k
  | .vcaRel => .rdrecVcaRel k
  | .vcfDcy => .rdrecVcfDcy k
  | .vcaDcy => .rdrecVcaDcy k
  | .vcfAtk => .rdrecVcfAtk k
  | .vcaAtk => .rdrecVcaAtk k
  | .vcfSus => .rdrecVcfSus k
  | .vcaSus => .rdrecVcaSus k
  | .vcfMod => .rdrecVcfMod k
  | .vcfRes => .rdrecVcfRes k
  | .oscPWM => .rdrecOscPWM k
  | .lfoFreq => .rdrecLfoFreq k
  | .fmAmnt => .rdrecFmAmnt k
  | .pwmAmnt => .rdrecPwmAmnt k
  | .portAmt => .rdrecPortAmt k
  | .osc2Detune => .rdrecOsc2Detune k
  | .vcfFreq => .rdrecVcfFreq k
  | .vco2Freq => .rdrecVco2Freq k
  | .vco1Freq => .rdrecVco1Freq k
  | .lfoTrigPoint => .rdrecLfoTrigPoint k
  | .pedalSustn => .rdrecPedalSustn k
  | .fmVibRaise => .rdrecFmVibRaise k
  | .pwmVibRaise => .rdrecPwmVibRaise k
  | .fmVibDelay => .rdrecFmVibDelay k
  | .pwmVibDelay => .rdrecPwmVibDelay k
  | .voiceDetune => .rdrecVoiceDetune k
  | .bendAmount => .rdrecBendAmount k
  | .unison => .rdrecUnison k
  | .filterFM => .rdrecFilterFM k
  | .osc2FM => .rdrecOsc2FM k
  | .osc2PWM => .rdrecOsc2PWM k
  | .osc1PWM => .rdrecOsc1PWM k
  | .noise => .rdrecNoise k
  | .fourPole => .rdrecFourPole k
  | .osc2On => .rdrecOsc2On k
  | .osc2Half => .rdrecOsc2Half k
  | .osc1On => .rdrecOsc1On k
  | .kbdTrack => .rdrecKbdTrack k
  | .pw1180 => .rdrecPw1180 k
  | .vco1180 => .rdrecVco1180 k
  | .vcaMod => .rdrecVcaMod k
  | .fEnv => .rdrecFEnv k
  | .sync => .rdrecSync k
  | .osc1FM => .rdrecOsc1FM k
  | .spare => .rdrecSpare k
  | .legato => .rdrecLegato k
  | .portBend => .rdrecPortBend k
  | .lfoTrack => .rdrecLfoTrack k
  | .fmDlyInvert => .rdrecFmDlyInvert k
  | .portQuant => .rdrecPortQuant k
  | .portMatch => .rdrecPortMatch k
  | .flag180 => .rdrecFlag180 k
  | .flag90 => .rdrecFlag90 k
  | .pwmDlyInvert => .rdrecPwmDlyInvert k
  | .pwmQuant => .rdrecPwmQuant k
  | .expoPort => .rdrecExpoPort k
  | .constPort => .rdrecConstPort k
  | .lfoRateDelay => .rdrecLfoRateDelay k
  | .fmQuant => .rdrecFmQuant k
  | .osc2Wave => .rdrecOsc2Wave k
  | .osc1Wave => .rdrecOsc1Wave k
  | .lfoWave => .rdrecLfoWave k
  | .trigLfoWave => .rdrecTrigLfoWave k
  | .volume => .rdrecVolume k
  | .vco2PW => .rdrecVco2PW k
  | .osc2WaveTri => .rdrecOsc2WaveTri k
  | .osc2WaveSqr => .rdrecOsc2WaveSqr k
  | .osc1WaveTri => .rdrecOsc1WaveTri k
  | .osc1WaveSqr => .rdrecOsc1WaveSqr k
  | .lfoWaveTri => .rdrecLfoWaveTri k
  | .lfoWaveSqr => .rdrecLfoWaveSqr k
  | .lfoWaveSnH => .rdrecLfoWaveSnH k

/-- R314: the row of a reserved field id, by its range. -/
def reservedFieldInstr (k : Count) (f : Byte) : Instr :=
  if f.toNat < 0x50 then .rdrecReserved4C k f
  else if f.toNat < 0x60 then .rdrecReserved50 k f
  else if f.toNat < 0x80 then .rdrecReserved60 k f
  else .rdrecReserved80 k f

/-- R310: `i` where the must-be-zero bits are 0, else the rejection. -/
def ifZero (mbzClear : Bool) (op : BitVec 4) (i : Instr) : Except DecodeError Instr :=
  if mbzClear then .ok i else .error (.mustBeZero op)

/-- R309: the command a word encodes, in the order of R700: the operation code, then the must-be-zero fields, then
the field id of RDREC. -/
def decode (w : HostWord) : Except DecodeError Instr :=
  match (cmdOp w).toNat with
  | 0 => ifZero (cmdLow w == 0) (cmdOp w) .nop
  | 1 => .ok (.wrbuf (cmdA w) (cmdD w))
  | 2 => ifZero (cmdD w == 0) (cmdOp w) (.rdbuf (cmdA w))
  | 3 => ifZero (cmdD w == 0) (cmdOp w) (.wrlen (cmdA w))
  | 4 => ifZero (cmdLow w == 0) (cmdOp w) .rdlen
  | 5 => ifZero (cmdLow w == 0) (cmdOp w) .start
  | 6 => ifZero (cmdLow w == 0) (cmdOp w) .rdstat
  | 7 => ifZero (cmdLow w == 0) (cmdOp w) .rdnrec
  | 8 =>
    match Field.ofId (cmdD w) with
    | some f => .ok (rdrecInstr (cmdA w) f)
    | none => .ok (reservedFieldInstr (cmdA w) (cmdD w))
  | 9 => ifZero (cmdHigh w == 0) (cmdOp w) (.combine (cmdD w) (cmdM w))
  | 10 => .ok (.reservedOpAB (cmdOp w) (cmdLow w))
  | 11 => .ok (.reservedOpAB (cmdOp w) (cmdLow w))
  | _ => .ok (.reservedOpCF (cmdOp w) (cmdLow w))

/-- R308: a command word from its three fields. -/
def commandWord (op : BitVec 4) (a : Count) (d : Byte) : HostWord := op ++ a ++ d

/-- R308: a COMBINE word: OP 9, bits 27..16 zero, M, L. -/
def combineWord (l m : Byte) : HostWord := (0x9#4) ++ (0#12) ++ m ++ l

/-- R308, R710: a word with a reserved operation code, from the code and its other bits. -/
def reservedWord (op : BitVec 4) (low : BitVec 28) : HostWord := op ++ low

/-- R309: the word of a command. -/
def encode : Instr → HostWord
  | .nop => commandWord 0x0 0 0
  | .wrbuf a d => commandWord 0x1 a d
  | .rdbuf a => commandWord 0x2 a 0
  | .wrlen n => commandWord 0x3 n 0
  | .rdlen => commandWord 0x4 0 0
  | .start => commandWord 0x5 0 0
  | .rdstat => commandWord 0x6 0 0
  | .rdnrec => commandWord 0x7 0 0
  | .rdrecIndex k => commandWord 0x8 k 0x00
  | .rdrecGroupNum k => commandWord 0x8 k 0x01
  | .rdrecGroupMask k => commandWord 0x8 k 0x02
  | .rdrecNumber k => commandWord 0x8 k 0x03
  | .rdrecVcfRel k => commandWord 0x8 k 0x04
  | .rdrecVcaRel k => commandWord 0x8 k 0x05
  | .rdrecVcfDcy k => commandWord 0x8 k 0x06
  | .rdrecVcaDcy k => commandWord 0x8 k 0x07
  | .rdrecVcfAtk k => commandWord 0x8 k 0x08
  | .rdrecVcaAtk k => commandWord 0x8 k 0x09
  | .rdrecVcfSus k => commandWord 0x8 k 0x0A
  | .rdrecVcaSus k => commandWord 0x8 k 0x0B
  | .rdrecVcfMod k => commandWord 0x8 k 0x0C
  | .rdrecVcfRes k => commandWord 0x8 k 0x0D
  | .rdrecOscPWM k => commandWord 0x8 k 0x0E
  | .rdrecLfoFreq k => commandWord 0x8 k 0x0F
  | .rdrecFmAmnt k => commandWord 0x8 k 0x10
  | .rdrecPwmAmnt k => commandWord 0x8 k 0x11
  | .rdrecPortAmt k => commandWord 0x8 k 0x12
  | .rdrecOsc2Detune k => commandWord 0x8 k 0x13
  | .rdrecVcfFreq k => commandWord 0x8 k 0x14
  | .rdrecVco2Freq k => commandWord 0x8 k 0x15
  | .rdrecVco1Freq k => commandWord 0x8 k 0x16
  | .rdrecLfoTrigPoint k => commandWord 0x8 k 0x17
  | .rdrecPedalSustn k => commandWord 0x8 k 0x18
  | .rdrecFmVibRaise k => commandWord 0x8 k 0x19
  | .rdrecPwmVibRaise k => commandWord 0x8 k 0x1A
  | .rdrecFmVibDelay k => commandWord 0x8 k 0x1B
  | .rdrecPwmVibDelay k => commandWord 0x8 k 0x1C
  | .rdrecVoiceDetune k => commandWord 0x8 k 0x1D
  | .rdrecBendAmount k => commandWord 0x8 k 0x1E
  | .rdrecUnison k => commandWord 0x8 k 0x1F
  | .rdrecFilterFM k => commandWord 0x8 k 0x20
  | .rdrecOsc2FM k => commandWord 0x8 k 0x21
  | .rdrecOsc2PWM k => commandWord 0x8 k 0x22
  | .rdrecOsc1PWM k => commandWord 0x8 k 0x23
  | .rdrecNoise k => commandWord 0x8 k 0x24
  | .rdrecFourPole k => commandWord 0x8 k 0x25
  | .rdrecOsc2On k => commandWord 0x8 k 0x26
  | .rdrecOsc2Half k => commandWord 0x8 k 0x27
  | .rdrecOsc1On k => commandWord 0x8 k 0x28
  | .rdrecKbdTrack k => commandWord 0x8 k 0x29
  | .rdrecPw1180 k => commandWord 0x8 k 0x2A
  | .rdrecVco1180 k => commandWord 0x8 k 0x2B
  | .rdrecVcaMod k => commandWord 0x8 k 0x2C
  | .rdrecFEnv k => commandWord 0x8 k 0x2D
  | .rdrecSync k => commandWord 0x8 k 0x2E
  | .rdrecOsc1FM k => commandWord 0x8 k 0x2F
  | .rdrecSpare k => commandWord 0x8 k 0x30
  | .rdrecLegato k => commandWord 0x8 k 0x31
  | .rdrecPortBend k => commandWord 0x8 k 0x32
  | .rdrecLfoTrack k => commandWord 0x8 k 0x33
  | .rdrecFmDlyInvert k => commandWord 0x8 k 0x34
  | .rdrecPortQuant k => commandWord 0x8 k 0x35
  | .rdrecPortMatch k => commandWord 0x8 k 0x36
  | .rdrecFlag180 k => commandWord 0x8 k 0x37
  | .rdrecFlag90 k => commandWord 0x8 k 0x38
  | .rdrecPwmDlyInvert k => commandWord 0x8 k 0x39
  | .rdrecPwmQuant k => commandWord 0x8 k 0x3A
  | .rdrecExpoPort k => commandWord 0x8 k 0x3B
  | .rdrecConstPort k => commandWord 0x8 k 0x3C
  | .rdrecLfoRateDelay k => commandWord 0x8 k 0x3D
  | .rdrecFmQuant k => commandWord 0x8 k 0x3E
  | .rdrecOsc2Wave k => commandWord 0x8 k 0x3F
  | .rdrecOsc1Wave k => commandWord 0x8 k 0x40
  | .rdrecLfoWave k => commandWord 0x8 k 0x41
  | .rdrecTrigLfoWave k => commandWord 0x8 k 0x42
  | .rdrecVolume k => commandWord 0x8 k 0x43
  | .rdrecVco2PW k => commandWord 0x8 k 0x44
  | .rdrecOsc2WaveTri k => commandWord 0x8 k 0x45
  | .rdrecOsc2WaveSqr k => commandWord 0x8 k 0x46
  | .rdrecOsc1WaveTri k => commandWord 0x8 k 0x47
  | .rdrecOsc1WaveSqr k => commandWord 0x8 k 0x48
  | .rdrecLfoWaveTri k => commandWord 0x8 k 0x49
  | .rdrecLfoWaveSqr k => commandWord 0x8 k 0x4A
  | .rdrecLfoWaveSnH k => commandWord 0x8 k 0x4B
  | .rdrecReserved4C k f => commandWord 0x8 k f
  | .rdrecReserved50 k f => commandWord 0x8 k f
  | .rdrecReserved60 k f => commandWord 0x8 k f
  | .rdrecReserved80 k f => commandWord 0x8 k f
  | .combine l m => combineWord l m
  | .reservedOpAB op low => reservedWord op low
  | .reservedOpCF op low => reservedWord op low

/-- The command that the decoder reads from the low `nbits` bits of `w`, every higher bit zero. A command is one
32-bit word (R317), whose bits the opcode table numbers as the hardware does. -/
def decodeTableWord (nbits w : Nat) : Option Instr :=
  match decode (BitVec.ofNat 32 (w % 2 ^ nbits)) with
  | .ok i => some i
  | .error _ => none

end Sys2Proof
end

