-- ==== Sys2Proof/Machine/Record.lean ====
section
/-!
DEFINITION. The ProgramRecord of 10_state.md R109: exactly 76 fields, each with its width.
-/

namespace Sys2Proof.Machine

/-- R109: one decoded program. No field is optional (R508); the derived flags are kept beside the selectors
they are read from. The field order is that of the field ids (30_encoding.md R313). -/
structure ProgramRecord where
  -- The header fields (R503 to R506).
  index : BitVec 8
  groupNum : BitVec 6
  groupMask : BitVec 4
  number : BitVec 4
  -- The 27 continuous parameters (R520 to R546).
  vcfRel : BitVec 6
  vcaRel : BitVec 6
  vcfDcy : BitVec 6
  vcaDcy : BitVec 6
  vcfAtk : BitVec 6
  vcaAtk : BitVec 6
  vcfSus : BitVec 6
  vcaSus : BitVec 6
  vcfMod : BitVec 6
  vcfRes : BitVec 6
  oscPWM : BitVec 6
  lfoFreq : BitVec 6
  fmAmnt : BitVec 6
  pwmAmnt : BitVec 6
  portAmt : BitVec 6
  osc2Detune : BitVec 6
  vcfFreq : BitVec 6
  vco2Freq : BitVec 6
  vco1Freq : BitVec 6
  lfoTrigPoint : BitVec 6
  pedalSustn : BitVec 6
  fmVibRaise : BitVec 6
  pwmVibRaise : BitVec 6
  fmVibDelay : BitVec 6
  pwmVibDelay : BitVec 6
  voiceDetune : BitVec 6
  bendAmount : BitVec 6
  -- The 32 flags (R547 to R578).
  unison : BitVec 1
  filterFM : BitVec 1
  osc2FM : BitVec 1
  osc2PWM : BitVec 1
  osc1PWM : BitVec 1
  noise : BitVec 1
  fourPole : BitVec 1
  osc2On : BitVec 1
  osc2Half : BitVec 1
  osc1On : BitVec 1
  kbdTrack : BitVec 1
  pw1180 : BitVec 1
  vco1180 : BitVec 1
  vcaMod : BitVec 1
  fEnv : BitVec 1
  sync : BitVec 1
  osc1FM : BitVec 1
  spare : BitVec 1
  legato : BitVec 1
  portBend : BitVec 1
  lfoTrack : BitVec 1
  fmDlyInvert : BitVec 1
  portQuant : BitVec 1
  portMatch : BitVec 1
  flag180 : BitVec 1
  flag90 : BitVec 1
  pwmDlyInvert : BitVec 1
  pwmQuant : BitVec 1
  expoPort : BitVec 1
  constPort : BitVec 1
  lfoRateDelay : BitVec 1
  fmQuant : BitVec 1
  -- The 2-bit selectors (R579, R580).
  osc2Wave : BitVec 2
  osc1Wave : BitVec 2
  -- The 3-bit selectors (R581, R582).
  lfoWave : BitVec 3
  trigLfoWave : BitVec 3
  -- The 6-bit composites (R583, R584).
  volume : BitVec 6
  vco2PW : BitVec 6
  -- The 7 derived flags (R585 to R591).
  osc2WaveTri : BitVec 1
  osc2WaveSqr : BitVec 1
  osc1WaveTri : BitVec 1
  osc1WaveSqr : BitVec 1
  lfoWaveTri : BitVec 1
  lfoWaveSqr : BitVec 1
  lfoWaveSnH : BitVec 1
deriving DecidableEq, Repr, Inhabited

end Sys2Proof.Machine
end

