-- ==== Sys2Proof/Config.lean ====
section
/-!
DEFINITION. What is fixed for one block: the parameters of 00_scope.md R7, and the free values of
93_implementation_defined.md (U2, U5).
-/

namespace Sys2Proof

/-- The parameters a block is built with. `bufCap` is BUF_CAP, the one OPEN parameter of R7 (U3). -/
structure Config where
  /-- BUF_CAP: the capacity of BUF in bytes. -/
  bufCap : Nat
deriving DecidableEq, Repr

/-- R7: 60 ≤ BUF_CAP ≤ 1048575. -/
def Config.valid (c : Config) : Bool :=
  decide (60 ≤ c.bufCap) && decide (c.bufCap ≤ 1048575)

/-- R7: the reference configuration, BUF_CAP = 7680 (128 blocks). DESIGN CHOICE (log 3): the reset state
takes this one. -/
def Config.reference : Config := ⟨7680⟩

/-- R7: REC_CAP = BUF_CAP div 60 records. -/
def Config.recCap (c : Config) : Nat := c.bufCap / 60

/-- R7, BLOCK: the bytes of one program block. -/
def blockBytes : Nat := 60

/-- R7, MAGIC: the bytes F0 10 01 01 at buffer offsets 0..3. -/
def magic : List Byte := [0xF0, 0x10, 0x01, 0x01]

/-- U2: what an entry of REC holds that no SEQ step has written. A free value (log 5): nothing in the model
says what it is, and no reachable state reads it (R104). -/
opaque Config.unspecifiedRecord : Nat → Machine.ProgramRecord

/-- U5: what stands at the positions 0..3 and 59 of the block that a SEQ step hands to the program decoder.
The step does not read them (R603). A free value (log 6); no field of a record depends on it (R502). -/
opaque Config.unreadByte : Nat → Byte

end Sys2Proof
end

