-- ==== Sys2Proof/Machine/Store.lean ====
section
/-!
DEFINITION. Sparse storage in one canonical form: a list of (key, value) pairs with strictly rising keys. A key that
is not listed holds no value. BUF with BUF_VALID is such a list of bytes (10_state.md R102, R103), REC such a list of
records (R104).
-/

namespace Sys2Proof.Machine

/-- Pairs of a key and the value it holds, keys strictly rising. -/
abbrev Store (α : Type) := List (Nat × α)

/-- BUF and BUF_VALID: the bytes written since the last reset. Bit `a` of BUF_VALID is 1 exactly when `a` is listed
(log 4). -/
abbrev Memory := List Host.Cell

/-- The value at a key; `none` where nothing is listed. -/
def Store.read {α : Type} : Store α → Nat → Option α
  | [], _ => none
  | (k, v) :: m, a => if k = a then some v else Store.read m a

/-- The store after a write: the key lists the new value, in its place of the rising order. -/
def Store.write {α : Type} : Store α → Nat → α → Store α
  | [], a, v => [(a, v)]
  | (k, w) :: m, a, v =>
    if a < k then (a, v) :: (k, w) :: m
    else if a = k then (a, v) :: m
    else (k, w) :: Store.write m a v

/-- The canonical form: keys strictly rising. -/
def Store.wf {α : Type} : Store α → Bool
  | [] => true
  | [_] => true
  | x :: y :: m => decide (x.1 < y.1) && Store.wf (y :: m)

/-- The byte at a BUF address, where one has been written since the last reset. What an unlisted address reads as is
no value: R102 calls it unspecified and unreadable. -/
def Memory.read (m : Memory) (a : Nat) : Option Byte := Store.read m a

/-- BUF after a byte is written: the byte is there and its BUF_VALID bit is 1. -/
def Memory.write (m : Memory) (a : Nat) (v : Byte) : Memory := Store.write m a v

/-- The canonical form of BUF. An unlisted address reads as no value, so no entry equals what it would read as
unlisted. -/
def Memory.wf (m : Memory) : Bool := Store.wf m

end Sys2Proof.Machine
end

