-- ==== Sys2Proof/Machine/State.lean ====
section
/-!
DEFINITION. The state of one block: the tuple of 10_state.md R101 as plain data, its configuration (00_scope.md R7),
the response word of the latest step (30_encoding.md R311) and the events still to come (20_memory.md R211).
-/

namespace Sys2Proof.Machine

/-- The register STATE (10_state.md R106). -/
inductive Phase where
  /-- 0: no decode has been started since reset. -/
  | idle
  /-- 1: a decode passed the format check and records are being produced. -/
  | busy
  /-- 2: the last decode finished; records 0..NREC-1 are readable. -/
  | done
  /-- 3: the last START failed the format check; there are zero records. -/
  | fmtErr
deriving DecidableEq, Repr

/-- One element of the total order of steps (20_memory.md R211; log 1). -/
inductive Event where
  /-- The host issues a command word. -/
  | command (w : HostWord)
  /-- A turn of the agent SEQ. -/
  | seq
  /-- The reset input (70_reset_and_hazards.md R900). -/
  | reset
deriving DecidableEq, Repr

/-- The state of one block. -/
structure State where
  /-- BUF_CAP (R7): configuration, which no step changes (log 3). -/
  config : Config
  /-- BUF and BUF_VALID (R102, R103; log 4). -/
  buf : Memory
  /-- LEN (R105). -/
  len : Count
  /-- STATE (R106). -/
  phase : Phase
  /-- NREC, which is also SEQ's cursor (R107). -/
  nrec : Count
  /-- FMT_CAUSE: bit 0 LEN_BAD, bit 1 MAGIC_BAD (R108). -/
  fmtCause : BitVec 2
  /-- FAULT, the sticky fault bits (R110). -/
  fault : BitVec 5
  /-- REC (R104; log 5). -/
  records : Store ProgramRecord
  /-- The model's own field: the response word of the latest step, `none` where that step was no host command
  (R311; log 2). -/
  rsp : Option HostWord
  /-- The model's own field: the events to come, the next one first (R211; log 1). -/
  pending : List Event
deriving DecidableEq, Repr

/-- Why the model's machine stops. No state that a run reaches stops. -/
inductive Fault where
  /-- Raised by the SEQ step (42_bank_decoder.md R603) where it would write a REC entry at or above REC_CAP, which
  R104 does not give the block. R111 (c) rules it out in every reachable state. Safe (log 7). -/
  | noSuchRecord
deriving DecidableEq, Repr

/-- What the model has no meaning for. -/
inductive Refusal where
  /-- An instruction without a meaning; no arm of exec answers it. Safe. -/
  | notModelled (mnemonic : String)
deriving DecidableEq, Repr

/-- 70_reset_and_hazards.md R900: the state right after reset of a block with configuration `c`. No event is pending
(log 9) and there is no response (R900). -/
def State.resetWith (c : Config) : State where
  config := c
  buf := []
  len := 0
  phase := .idle
  nrec := 0
  fmtCause := 0
  fault := 0
  records := []
  rsp := none
  pending := []

/-- R900, R902: the machine right after reset, in the reference configuration (log 3). -/
def State.reset : State := State.resetWith Config.reference

end Sys2Proof.Machine
end

