-- ==== Sys2Proof/Machine/Flags.lean ====
section
/-!
DEFINITION. The bits of the status: fault codes (60_exceptions.md R802), the STATE and FMT_CAUSE codes (10_state.md
R106, R108), and the status word (30_encoding.md R312).
-/

namespace Sys2Proof.Machine

/-- The five faults of R802. -/
inductive FaultBit where
  | illegalCmd
  | busyViolation
  | range
  | recAccess
  | uninitRead
deriving DecidableEq, Repr

/-- R802: a fault's code is its bit number in FAULT (10_state.md R110). -/
def FaultBit.code : FaultBit → Nat
  | .illegalCmd => 0
  | .busyViolation => 1
  | .range => 2
  | .recAccess => 3
  | .uninitRead => 4

/-- FAULT with one bit set (R110). -/
def FaultBit.mask (b : FaultBit) : BitVec 5 := 1#5 <<< b.code

/-- R106: the value of STATE. -/
def Phase.code : Phase → BitVec 2
  | .idle => 0
  | .busy => 1
  | .done => 2
  | .fmtErr => 3

/-- R601: `(magic_bad << 1) | len_bad`, the FMT_CAUSE encoding of R108. -/
def fmtCauseBits (lenBad magicBad : Bool) : BitVec 2 :=
  ((BitVec.ofBool magicBad).setWidth 2 <<< 1) ||| (BitVec.ofBool lenBad).setWidth 2

/-- R312: `(FAULT << 8) | (FMT_CAUSE << 2) | STATE`. -/
def statusWord (s : State) : HostWord :=
  (s.fault.setWidth 32 <<< 8) ||| (s.fmtCause.setWidth 32 <<< 2) ||| s.phase.code.setWidth 32

/-- R809: the block is in fault-stop while FAULT ≠ 0. -/
def faultStopped (s : State) : Bool := s.fault != 0

/-- R603: SEQ is enabled exactly when STATE = BUSY and FAULT = 0. -/
def seqEnabled (s : State) : Bool := s.phase == .busy && s.fault == 0

end Sys2Proof.Machine
end

