-- ==== Sys2Proof/Machine/Combiner.lean ====
section
/-!
DEFINITION. The nibble combiner (40_nibble_combiner.md).
-/

namespace Sys2Proof.Machine

/-- R400: `d_o <- lsb | ((msb & 0xF) << 4)`. Only `msb` is masked (R401). -/
def combine (lsb msb : Byte) : Byte := lsb ||| ((msb &&& 0xF) <<< 4)

end Sys2Proof.Machine
end

