-- ==== Sys2Proof/Machine/ProgramDecoder.lean ====
section
/-!
DEFINITION. The program decoder (41_program_decoder.md): one 60-byte block to a record of 76 fields, a function of the
block alone (R509).
-/

namespace Sys2Proof.Machine

/-- R500: `blk[0..59]`, the 60 bytes of one program block. -/
abbrev Block := Fin 60 → Byte

/-- R501, R303: `d[k] = combine(blk[5+2k], blk[6+2k])`, the low-nibble byte at the lower offset. -/
def logicalByte (blk : Block) (k : Fin 27) : Byte :=
  combine (blk ⟨5 + 2 * k.val, by omega⟩) (blk ⟨6 + 2 * k.val, by omega⟩)

/-- R304: `d >> 2`, bits 7..2 of a logical byte. -/
def upperSix (d : Byte) : BitVec 6 := (d >>> 2).setWidth 6

/-- R304: `(d >> b) & 1`, one bit of a logical byte. -/
def flagBit (d : Byte) (b : Nat) : BitVec 1 := ((d >>> b) &&& 1).setWidth 1

/-- R579, R580: `d & 0x3`, a 2-bit selector. -/
def lowTwo (d : Byte) : BitVec 2 := (d &&& 0x3).setWidth 2

/-- R581, R582: `((d & 0x3) << 1) | ((d' >> 1) & 0x1)`, a 3-bit selector of two consecutive logical bytes. -/
def waveSelector (d d' : Byte) : BitVec 3 :=
  (((d &&& 0x3) <<< 1) ||| ((d' >>> 1) &&& 0x1)).setWidth 3

/-- R583, R584: `((d & 0x3) << 4) | ((d' & 0x3) << 2) | (d'' & 0x3)`, a 6-bit composite of three consecutive logical
bytes. -/
def sixBitComposite (d d' d'' : Byte) : BitVec 6 :=
  (((d &&& 0x3) <<< 4) ||| ((d' &&& 0x3) <<< 2) ||| (d'' &&& 0x3)).setWidth 6

/-- R585 to R591: `(selector >> b) & 1`, a derived flag. -/
def derivedFlag {w : Nat} (selector : BitVec w) (b : Nat) : BitVec 1 := ((selector >>> b) &&& 1).setWidth 1

/-- R504: `(blk[4] >> 3) + 1`. -/
def groupNumOf (index : Byte) : BitVec 6 := ((index >>> 3) + 1).setWidth 6

/-- R505: `((blk[4] >> 3) + 1) & 0xF`. -/
def groupMaskOf (index : Byte) : BitVec 4 := (((index >>> 3) + 1) &&& 0xF).setWidth 4

/-- R506: `(blk[4] & 0x7) + 1`. -/
def numberOf (index : Byte) : BitVec 4 := ((index &&& 0x7) + 1).setWidth 4

/-- R500: `decode(blk)`. Every field is written (R508), each by its own rule: R503 to R506 and R(516 + id). -/
def decodeProgram (blk : Block) : ProgramRecord where
  index := blk 4
  groupNum := groupNumOf (blk 4)
  groupMask := groupMaskOf (blk 4)
  number := numberOf (blk 4)
  vcfRel := upperSix (logicalByte blk 0)
  vcaRel := upperSix (logicalByte blk 1)
  vcfDcy := upperSix (logicalByte blk 2)
  vcaDcy := upperSix (logicalByte blk 3)
  vcfAtk := upperSix (logicalByte blk 4)
  vcaAtk := upperSix (logicalByte blk 5)
  vcfSus := upperSix (logicalByte blk 6)
  vcaSus := upperSix (logicalByte blk 7)
  vcfMod := upperSix (logicalByte blk 8)
  vcfRes := upperSix (logicalByte blk 9)
  oscPWM := upperSix (logicalByte blk 10)
  lfoFreq := upperSix (logicalByte blk 11)
  fmAmnt := upperSix (logicalByte blk 12)
  pwmAmnt := upperSix (logicalByte blk 13)
  portAmt := upperSix (logicalByte blk 14)
  osc2Detune := upperSix (logicalByte blk 15)
  vcfFreq := upperSix (logicalByte blk 16)
  vco2Freq := upperSix (logicalByte blk 17)
  vco1Freq := upperSix (logicalByte blk 18)
  lfoTrigPoint := upperSix (logicalByte blk 19)
  pedalSustn := upperSix (logicalByte blk 20)
  fmVibRaise := upperSix (logicalByte blk 21)
  pwmVibRaise := upperSix (logicalByte blk 22)
  fmVibDelay := upperSix (logicalByte blk 23)
  pwmVibDelay := upperSix (logicalByte blk 24)
  voiceDetune := upperSix (logicalByte blk 25)
  bendAmount := upperSix (logicalByte blk 26)
  unison := flagBit (logicalByte blk 1) 0
  filterFM := flagBit (logicalByte blk 2) 1
  osc2FM := flagBit (logicalByte blk 2) 0
  osc2PWM := flagBit (logicalByte blk 5) 1
  osc1PWM := flagBit (logicalByte blk 5) 0
  noise := flagBit (logicalByte blk 6) 1
  fourPole := flagBit (logicalByte blk 6) 0
  osc2On := flagBit (logicalByte blk 7) 1
  osc2Half := flagBit (logicalByte blk 7) 0
  osc1On := flagBit (logicalByte blk 8) 1
  kbdTrack := flagBit (logicalByte blk 8) 0
  pw1180 := flagBit (logicalByte blk 9) 1
  vco1180 := flagBit (logicalByte blk 9) 0
  vcaMod := flagBit (logicalByte blk 10) 1
  fEnv := flagBit (logicalByte blk 10) 0
  sync := flagBit (logicalByte blk 11) 1
  osc1FM := flagBit (logicalByte blk 11) 0
  spare := flagBit (logicalByte blk 18) 1
  legato := flagBit (logicalByte blk 18) 0
  portBend := flagBit (logicalByte blk 20) 0
  lfoTrack := flagBit (logicalByte blk 21) 1
  fmDlyInvert := flagBit (logicalByte blk 21) 0
  portQuant := flagBit (logicalByte blk 22) 1
  portMatch := flagBit (logicalByte blk 22) 0
  flag180 := flagBit (logicalByte blk 23) 1
  flag90 := flagBit (logicalByte blk 23) 0
  pwmDlyInvert := flagBit (logicalByte blk 24) 1
  pwmQuant := flagBit (logicalByte blk 24) 0
  expoPort := flagBit (logicalByte blk 25) 1
  constPort := flagBit (logicalByte blk 25) 0
  lfoRateDelay := flagBit (logicalByte blk 26) 1
  fmQuant := flagBit (logicalByte blk 26) 0
  osc2Wave := lowTwo (logicalByte blk 3)
  osc1Wave := lowTwo (logicalByte blk 4)
  lfoWave := waveSelector (logicalByte blk 0) (logicalByte blk 1)
  trigLfoWave := waveSelector (logicalByte blk 19) (logicalByte blk 20)
  volume := sixBitComposite (logicalByte blk 12) (logicalByte blk 13) (logicalByte blk 14)
  vco2PW := sixBitComposite (logicalByte blk 15) (logicalByte blk 16) (logicalByte blk 17)
  osc2WaveTri := derivedFlag (lowTwo (logicalByte blk 3)) 0
  osc2WaveSqr := derivedFlag (lowTwo (logicalByte blk 3)) 1
  osc1WaveTri := derivedFlag (lowTwo (logicalByte blk 4)) 0
  osc1WaveSqr := derivedFlag (lowTwo (logicalByte blk 4)) 1
  lfoWaveTri := derivedFlag (waveSelector (logicalByte blk 0) (logicalByte blk 1)) 0
  lfoWaveSqr := derivedFlag (waveSelector (logicalByte blk 0) (logicalByte blk 1)) 1
  lfoWaveSnH := derivedFlag (waveSelector (logicalByte blk 0) (logicalByte blk 1)) 2

/-- The letters of R507. -/
inductive GroupLetter where
  | A
  | B
  | C
  | D
deriving DecidableEq, Repr

/-- R507: the letters whose mask bit is set, in the order A, B, C, D (R505: bit 0 is A, bit 3 is D); empty for mask
0. A helper for renderers, not a field. -/
def groupLetters (mask : BitVec 4) : List GroupLetter :=
  (if mask.getLsbD 0 then [.A] else []) ++ (if mask.getLsbD 1 then [.B] else []) ++
    (if mask.getLsbD 2 then [.C] else []) ++ (if mask.getLsbD 3 then [.D] else [])

end Sys2Proof.Machine
end

