-- ==== Sys2Proof/Machine/Operands.lean ====
section
/-!
DEFINITION. The operand forms: the field of a record that RDREC's D operand names (30_encoding.md R313), the block a
SEQ step hands to the program decoder (42_bank_decoder.md R603), and the zero-extension of a response (R311).
-/

namespace Sys2Proof.Machine

/-- R8, R311: `zext32`. -/
def zext32 {w : Nat} (v : BitVec w) : HostWord := v.setWidth 32

/-- R306, R313, R708: `zext32(REC[k].<field f>)`. -/
def ProgramRecord.word (r : ProgramRecord) : Field → HostWord
  | .index => zext32 r.index
  | .groupNum => zext32 r.groupNum
  | .groupMask => zext32 r.groupMask
  | .number => zext32 r.number
  | .vcfRel => zext32 r.vcfRel
  | .vcaRel => zext32 r.vcaRel
  | .vcfDcy => zext32 r.vcfDcy
  | .vcaDcy => zext32 r.vcaDcy
  | .vcfAtk => zext32 r.vcfAtk
  | .vcaAtk => zext32 r.vcaAtk
  | .vcfSus => zext32 r.vcfSus
  | .vcaSus => zext32 r.vcaSus
  | .vcfMod => zext32 r.vcfMod
  | .vcfRes => zext32 r.vcfRes
  | .oscPWM => zext32 r.oscPWM
  | .lfoFreq => zext32 r.lfoFreq
  | .fmAmnt => zext32 r.fmAmnt
  | .pwmAmnt => zext32 r.pwmAmnt
  | .portAmt => zext32 r.portAmt
  | .osc2Detune => zext32 r.osc2Detune
  | .vcfFreq => zext32 r.vcfFreq
  | .vco2Freq => zext32 r.vco2Freq
  | .vco1Freq => zext32 r.vco1Freq
  | .lfoTrigPoint => zext32 r.lfoTrigPoint
  | .pedalSustn => zext32 r.pedalSustn
  | .fmVibRaise => zext32 r.fmVibRaise
  | .pwmVibRaise => zext32 r.pwmVibRaise
  | .fmVibDelay => zext32 r.fmVibDelay
  | .pwmVibDelay => zext32 r.pwmVibDelay
  | .voiceDetune => zext32 r.voiceDetune
  | .bendAmount => zext32 r.bendAmount
  | .unison => zext32 r.unison
  | .filterFM => zext32 r.filterFM
  | .osc2FM => zext32 r.osc2FM
  | .osc2PWM => zext32 r.osc2PWM
  | .osc1PWM => zext32 r.osc1PWM
  | .noise => zext32 r.noise
  | .fourPole => zext32 r.fourPole
  | .osc2On => zext32 r.osc2On
  | .osc2Half => zext32 r.osc2Half
  | .osc1On => zext32 r.osc1On
  | .kbdTrack => zext32 r.kbdTrack
  | .pw1180 => zext32 r.pw1180
  | .vco1180 => zext32 r.vco1180
  | .vcaMod => zext32 r.vcaMod
  | .fEnv => zext32 r.fEnv
  | .sync => zext32 r.sync
  | .osc1FM => zext32 r.osc1FM
  | .spare => zext32 r.spare
  | .legato => zext32 r.legato
  | .portBend => zext32 r.portBend
  | .lfoTrack => zext32 r.lfoTrack
  | .fmDlyInvert => zext32 r.fmDlyInvert
  | .portQuant => zext32 r.portQuant
  | .portMatch => zext32 r.portMatch
  | .flag180 => zext32 r.flag180
  | .flag90 => zext32 r.flag90
  | .pwmDlyInvert => zext32 r.pwmDlyInvert
  | .pwmQuant => zext32 r.pwmQuant
  | .expoPort => zext32 r.expoPort
  | .constPort => zext32 r.constPort
  | .lfoRateDelay => zext32 r.lfoRateDelay
  | .fmQuant => zext32 r.fmQuant
  | .osc2Wave => zext32 r.osc2Wave
  | .osc1Wave => zext32 r.osc1Wave
  | .lfoWave => zext32 r.lfoWave
  | .trigLfoWave => zext32 r.trigLfoWave
  | .volume => zext32 r.volume
  | .vco2PW => zext32 r.vco2PW
  | .osc2WaveTri => zext32 r.osc2WaveTri
  | .osc2WaveSqr => zext32 r.osc2WaveSqr
  | .osc1WaveTri => zext32 r.osc1WaveTri
  | .osc1WaveSqr => zext32 r.osc1WaveSqr
  | .lfoWaveTri => zext32 r.lfoWaveTri
  | .lfoWaveSqr => zext32 r.lfoWaveSqr
  | .lfoWaveSnH => zext32 r.lfoWaveSnH

/-- R603: the block made of the 55 bytes read at offsets 4..58. The offsets 0..3 and 59 are not read and hold the
free value of U5 (log 6). -/
def blockOfBytes (bytes : List Byte) : Block := fun j =>
  if 4 ≤ j.val ∧ j.val ≤ 58 then bytes.getD (j.val - 4) 0 else Config.unreadByte j.val

end Sys2Proof.Machine
end

