-- ==== Sys2Proof/Machine/Ops.lean ====
section
/-!
DEFINITION. The named operations: the state updates, the checked accesses to BUF (00_scope.md R9), the accesses to REC,
taking a fault (60_exceptions.md R808), the frame of a host command (43_host_commands.md R700), the format check
(42_bank_decoder.md R601) and the reads of a SEQ step (R603).
-/

namespace Sys2Proof.Machine

/-- What a step answers. -/
abbrev StepResult := Host.Outcome State Fault Refusal

/-! ## State updates -/

/-- `rsp <- w` (R9). -/
def State.respond (s : State) (w : HostWord) : State := { s with rsp := some w }

/-- BUF with BUF_VALID replaced. -/
def State.setBuf (s : State) (m : Memory) : State := { s with buf := m }

/-- `LEN <- n`. -/
def State.setLen (s : State) (n : Count) : State := { s with len := n }

/-- The remaining events replaced. -/
def State.setPending (s : State) (l : List Event) : State := { s with pending := l }

/-- R602: `NREC <- 0`, `FMT_CAUSE <- cause`, `STATE <- (cause = 0) ? BUSY : FMT_ERR`. REC is not written. -/
def State.beginDecode (s : State) (cause : BitVec 2) : State :=
  { s with nrec := 0, fmtCause := cause, phase := if cause = 0 then .busy else .fmtErr }

/-- R603: `REC[NREC] <- r`, `NREC <- NREC + 1`, and DONE after the last block (R604). A SEQ step gives no response. -/
def State.storeRecord (s : State) (r : ProgramRecord) : State :=
  { s with
    records := Store.write s.records s.nrec.toNat r
    nrec := s.nrec + 1
    phase := if s.nrec.toNat + 1 = s.len.toNat / 60 then .done else s.phase
    rsp := none }

/-! ## Taking a fault -/

/-- R808: `raise Fault(B)` in a host command. The bit is set, every other effect is discarded, `rsp <- 0`. There is
no vector and no handler, so control goes nowhere, and there is no return (R813). -/
def State.raiseFault (s : State) (b : FaultBit) : State := { s with fault := s.fault ||| b.mask, rsp := some 0 }

/-- R808: `raise Fault(B)` in a SEQ step, which has no response word. -/
def State.raiseSeqFault (s : State) (b : FaultBit) : State := { s with fault := s.fault ||| b.mask, rsp := none }

/-- The answer of a command whose checks and effect are computed: its next state, or the fault taken (R808). -/
def settle (s : State) (effect : Except FaultBit State) : StepResult :=
  match effect with
  | .ok t => .next t
  | .error b => .next (s.raiseFault b)

/-- R700 step 1, R809: under fault-stop a command is refused, with `rsp <- 0` and no other change; else its checks
and its effect apply. RDSTAT is served outside this frame. -/
def command (s : State) (effect : Except FaultBit State) : StepResult :=
  if faultStopped s then .next (s.respond 0) else settle s effect

/-! ## Checked accesses to BUF -/

/-- R9: `MemRead(a, 1)`. -/
def memRead (s : State) (a : Nat) : Except FaultBit Byte :=
  if s.config.bufCap ≤ a then .error .range
  else
    match s.buf.read a with
    | none => .error .uninitRead
    | some v => .ok v

/-- R9: `MemWrite(a, 1, v)`; it sets `BUF_VALID[a]` too. -/
def memWrite (s : State) (a : Nat) (v : Byte) : Except FaultBit State :=
  if s.config.bufCap ≤ a then .error .range else .ok (s.setBuf (s.buf.write a v))

/-- `MemRead` of `n` consecutive bytes from `a` upward; the first read that faults is the one raised (log 15). -/
def memReadMany (s : State) : Nat → Nat → Except FaultBit (List Byte)
  | _, 0 => .ok []
  | a, n + 1 =>
    match memRead s a with
    | .error b => .error b
    | .ok v =>
      match memReadMany s (a + 1) n with
      | .error b => .error b
      | .ok vs => .ok (v :: vs)

/-- R103: `BUF_VALID[a]`. -/
def State.bufValid (s : State) (a : Nat) : Bool := (s.buf.read a).isSome

/-! ## REC -/

/-- `REC[k]`. An entry nothing has written is unspecified (R104, U2): it reads as the free value (log 5). -/
def State.record (s : State) (k : Nat) : ProgramRecord :=
  (Store.read s.records k).getD (Config.unspecifiedRecord k)

/-! ## The format check and the block reads -/

/-- R601: LEN is not a positive multiple of 60. -/
def lenBad (s : State) : Bool := s.len.toNat == 0 || s.len.toNat % 60 != 0

/-- R601: `fmt_check()`. Both causes are computed; BUF[0..3] is read when LEN ≥ 4. -/
def fmtCheck (s : State) : Except FaultBit (BitVec 2) :=
  if s.len.toNat < 4 then .ok (fmtCauseBits (lenBad s) true)
  else
    match memReadMany s 0 4 with
    | .error b => .error b
    | .ok bytes => .ok (fmtCauseBits (lenBad s) (bytes != magic))

/-- R603: the 55 checked reads of a SEQ step for the block at `base`. -/
def readBlock (s : State) (base : Nat) : Except FaultBit Block :=
  match memReadMany s (base + 4) 55 with
  | .error b => .error b
  | .ok bytes => .ok (blockOfBytes bytes)

/-- `BUF[60·i .. 60·i+59]` as a block. A byte nothing has written since reset has no known value, and the free
value of U5 stands for it. -/
def State.block (s : State) (i : Nat) : Block := fun j =>
  (s.buf.read (60 * i + j.val)).getD (Config.unreadByte j.val)

end Sys2Proof.Machine
end

