-- ==== Sys2Proof/Machine/BankDecoder.lean ====
section
/-!
DEFINITION. The program bank decoder (42_bank_decoder.md): START and the step of the agent SEQ.
-/

namespace Sys2Proof.Machine

/-- R602: START. A failed format check is no fault but the outcome FMT_ERR (60_exceptions.md R801). -/
def execStart (s : State) : StepResult :=
  command s <|
    if s.phase = .busy then .error .busyViolation
    else
      match fmtCheck s with
      | .error b => .error b
      | .ok cause => .ok ((s.beginDecode cause).respond 0)

/-- R603: the SEQ step, for a state in which SEQ is enabled. A fault leaves REC, NREC and STATE as they were. REC has
no entry at or above REC_CAP (R104), so a write there, which R111 (c) rules out, stops the model (log 7). -/
def seqStep (s : State) : StepResult :=
  match readBlock s (60 * s.nrec.toNat) with
  | .error b => .next (s.raiseSeqFault b)
  | .ok blk =>
    if s.nrec.toNat < s.config.recCap then .next (s.storeRecord (decodeProgram blk)) else .fault .noSuchRecord

/-- A turn of SEQ: its step where it is enabled, and nothing where it is not (R603; log 1). -/
def seqTurn (s : State) : StepResult := if seqEnabled s then seqStep s else .next s

end Sys2Proof.Machine
end

