-- ==== Sys2Proof/Machine/BufferCommands.lean ====
section
/-!
DEFINITION. The commands that write and read BUF and LEN: WRBUF, RDBUF, WRLEN, RDLEN (43_host_commands.md R702 to
R705).
-/

namespace Sys2Proof.Machine

/-- R702: WRBUF a, d. -/
def execWrbuf (a : Count) (d : Byte) (s : State) : StepResult :=
  command s <|
    if s.phase = .busy then .error .busyViolation
    else
      match memWrite s a.toNat d with
      | .error b => .error b
      | .ok t => .ok (t.respond 0)

/-- R703: RDBUF a. It is legal in every STATE. -/
def execRdbuf (a : Count) (s : State) : StepResult :=
  command s <|
    match memRead s a.toNat with
    | .error b => .error b
    | .ok v => .ok (s.respond (zext32 v))

/-- R704: WRLEN n. -/
def execWrlen (n : Count) (s : State) : StepResult :=
  command s <|
    if s.phase = .busy then .error .busyViolation
    else if s.config.bufCap < n.toNat then .error .range
    else .ok ((s.setLen n).respond 0)

/-- R705: RDLEN. -/
def execRdlen (s : State) : StepResult := command s (.ok (s.respond (zext32 s.len)))

end Sys2Proof.Machine
end

