-- ==== Sys2Proof/Machine/RecordCommands.lean ====
section
/-!
DEFINITION. RDREC (43_host_commands.md R708), one meaning for each field id of 30_encoding.md R313, and the reserved
field ids (R314).
-/

namespace Sys2Proof.Machine

/-- R708: RDREC k, f for a legal field id. `k` counts by position in the buffer, not by the record's index. -/
def readRecord (f : Field) (k : Count) (s : State) : StepResult :=
  command s <|
    if s.phase ≠ .done ∨ s.nrec.toNat ≤ k.toNat then .error .recAccess
    else .ok (s.respond ((s.record k.toNat).word f))

/-- R314: RDREC with a reserved field id. -/
def readReservedField (_f : Byte) (_k : Count) (s : State) : StepResult := command s (.error .illegalCmd)

/-- RDREC k, index (field id 0x00, R503). -/
def execRdrecIndex (k : Count) (s : State) : StepResult := readRecord .index k s

/-- RDREC k, groupNum (field id 0x01, R504). -/
def execRdrecGroupNum (k : Count) (s : State) : StepResult := readRecord .groupNum k s

/-- RDREC k, groupMask (field id 0x02, R505). -/
def execRdrecGroupMask (k : Count) (s : State) : StepResult := readRecord .groupMask k s

/-- RDREC k, number (field id 0x03, R506). -/
def execRdrecNumber (k : Count) (s : State) : StepResult := readRecord .number k s

/-- RDREC k, vcfRel (field id 0x04, R520). -/
def execRdrecVcfRel (k : Count) (s : State) : StepResult := readRecord .vcfRel k s

/-- RDREC k, vcaRel (field id 0x05, R521). -/
def execRdrecVcaRel (k : Count) (s : State) : StepResult := readRecord .vcaRel k s

/-- RDREC k, vcfDcy (field id 0x06, R522). -/
def execRdrecVcfDcy (k : Count) (s : State) : StepResult := readRecord .vcfDcy k s

/-- RDREC k, vcaDcy (field id 0x07, R523). -/
def execRdrecVcaDcy (k : Count) (s : State) : StepResult := readRecord .vcaDcy k s

/-- RDREC k, vcfAtk (field id 0x08, R524). -/
def execRdrecVcfAtk (k : Count) (s : State) : StepResult := readRecord .vcfAtk k s

/-- RDREC k, vcaAtk (field id 0x09, R525). -/
def execRdrecVcaAtk (k : Count) (s : State) : StepResult := readRecord .vcaAtk k s

/-- RDREC k, vcfSus (field id 0x0A, R526). -/
def execRdrecVcfSus (k : Count) (s : State) : StepResult := readRecord .vcfSus k s

/-- RDREC k, vcaSus (field id 0x0B, R527). -/
def execRdrecVcaSus (k : Count) (s : State) : StepResult := readRecord .vcaSus k s

/-- RDREC k, vcfMod (field id 0x0C, R528). -/
def execRdrecVcfMod (k : Count) (s : State) : StepResult := readRecord .vcfMod k s

/-- RDREC k, vcfRes (field id 0x0D, R529). -/
def execRdrecVcfRes (k : Count) (s : State) : StepResult := readRecord .vcfRes k s

/-- RDREC k, oscPWM (field id 0x0E, R530). -/
def execRdrecOscPWM (k : Count) (s : State) : StepResult := readRecord .oscPWM k s

/-- RDREC k, lfoFreq (field id 0x0F, R531). -/
def execRdrecLfoFreq (k : Count) (s : State) : StepResult := readRecord .lfoFreq k s

/-- RDREC k, fmAmnt (field id 0x10, R532). -/
def execRdrecFmAmnt (k : Count) (s : State) : StepResult := readRecord .fmAmnt k s

/-- RDREC k, pwmAmnt (field id 0x11, R533). -/
def execRdrecPwmAmnt (k : Count) (s : State) : StepResult := readRecord .pwmAmnt k s

/-- RDREC k, portAmt (field id 0x12, R534). -/
def execRdrecPortAmt (k : Count) (s : State) : StepResult := readRecord .portAmt k s

/-- RDREC k, osc2Detune (field id 0x13, R535). -/
def execRdrecOsc2Detune (k : Count) (s : State) : StepResult := readRecord .osc2Detune k s

/-- RDREC k, vcfFreq (field id 0x14, R536). -/
def execRdrecVcfFreq (k : Count) (s : State) : StepResult := readRecord .vcfFreq k s

/-- RDREC k, vco2Freq (field id 0x15, R537). -/
def execRdrecVco2Freq (k : Count) (s : State) : StepResult := readRecord .vco2Freq k s

/-- RDREC k, vco1Freq (field id 0x16, R538). -/
def execRdrecVco1Freq (k : Count) (s : State) : StepResult := readRecord .vco1Freq k s

/-- RDREC k, lfoTrigPoint (field id 0x17, R539). -/
def execRdrecLfoTrigPoint (k : Count) (s : State) : StepResult := readRecord .lfoTrigPoint k s

/-- RDREC k, pedalSustn (field id 0x18, R540). -/
def execRdrecPedalSustn (k : Count) (s : State) : StepResult := readRecord .pedalSustn k s

/-- RDREC k, fmVibRaise (field id 0x19, R541). -/
def execRdrecFmVibRaise (k : Count) (s : State) : StepResult := readRecord .fmVibRaise k s

/-- RDREC k, pwmVibRaise (field id 0x1A, R542). -/
def execRdrecPwmVibRaise (k : Count) (s : State) : StepResult := readRecord .pwmVibRaise k s

/-- RDREC k, fmVibDelay (field id 0x1B, R543). -/
def execRdrecFmVibDelay (k : Count) (s : State) : StepResult := readRecord .fmVibDelay k s

/-- RDREC k, pwmVibDelay (field id 0x1C, R544). -/
def execRdrecPwmVibDelay (k : Count) (s : State) : StepResult := readRecord .pwmVibDelay k s

/-- RDREC k, voiceDetune (field id 0x1D, R545). -/
def execRdrecVoiceDetune (k : Count) (s : State) : StepResult := readRecord .voiceDetune k s

/-- RDREC k, bendAmount (field id 0x1E, R546). -/
def execRdrecBendAmount (k : Count) (s : State) : StepResult := readRecord .bendAmount k s

/-- RDREC k, unison (field id 0x1F, R547). -/
def execRdrecUnison (k : Count) (s : State) : StepResult := readRecord .unison k s

/-- RDREC k, filterFM (field id 0x20, R548). -/
def execRdrecFilterFM (k : Count) (s : State) : StepResult := readRecord .filterFM k s

/-- RDREC k, osc2FM (field id 0x21, R549). -/
def execRdrecOsc2FM (k : Count) (s : State) : StepResult := readRecord .osc2FM k s

/-- RDREC k, osc2PWM (field id 0x22, R550). -/
def execRdrecOsc2PWM (k : Count) (s : State) : StepResult := readRecord .osc2PWM k s

/-- RDREC k, osc1PWM (field id 0x23, R551). -/
def execRdrecOsc1PWM (k : Count) (s : State) : StepResult := readRecord .osc1PWM k s

/-- RDREC k, noise (field id 0x24, R552). -/
def execRdrecNoise (k : Count) (s : State) : StepResult := readRecord .noise k s

/-- RDREC k, fourPole (field id 0x25, R553). -/
def execRdrecFourPole (k : Count) (s : State) : StepResult := readRecord .fourPole k s

/-- RDREC k, osc2On (field id 0x26, R554). -/
def execRdrecOsc2On (k : Count) (s : State) : StepResult := readRecord .osc2On k s

/-- RDREC k, osc2Half (field id 0x27, R555). -/
def execRdrecOsc2Half (k : Count) (s : State) : StepResult := readRecord .osc2Half k s

/-- RDREC k, osc1On (field id 0x28, R556). -/
def execRdrecOsc1On (k : Count) (s : State) : StepResult := readRecord .osc1On k s

/-- RDREC k, kbdTrack (field id 0x29, R557). -/
def execRdrecKbdTrack (k : Count) (s : State) : StepResult := readRecord .kbdTrack k s

/-- RDREC k, pw1180 (field id 0x2A, R558). -/
def execRdrecPw1180 (k : Count) (s : State) : StepResult := readRecord .pw1180 k s

/-- RDREC k, vco1180 (field id 0x2B, R559). -/
def execRdrecVco1180 (k : Count) (s : State) : StepResult := readRecord .vco1180 k s

/-- RDREC k, vcaMod (field id 0x2C, R560). -/
def execRdrecVcaMod (k : Count) (s : State) : StepResult := readRecord .vcaMod k s

/-- RDREC k, fEnv (field id 0x2D, R561). -/
def execRdrecFEnv (k : Count) (s : State) : StepResult := readRecord .fEnv k s

/-- RDREC k, sync (field id 0x2E, R562). -/
def execRdrecSync (k : Count) (s : State) : StepResult := readRecord .sync k s

/-- RDREC k, osc1FM (field id 0x2F, R563). -/
def execRdrecOsc1FM (k : Count) (s : State) : StepResult := readRecord .osc1FM k s

/-- RDREC k, spare (field id 0x30, R564). -/
def execRdrecSpare (k : Count) (s : State) : StepResult := readRecord .spare k s

/-- RDREC k, legato (field id 0x31, R565). -/
def execRdrecLegato (k : Count) (s : State) : StepResult := readRecord .legato k s

/-- RDREC k, portBend (field id 0x32, R566). -/
def execRdrecPortBend (k : Count) (s : State) : StepResult := readRecord .portBend k s

/-- RDREC k, lfoTrack (field id 0x33, R567). -/
def execRdrecLfoTrack (k : Count) (s : State) : StepResult := readRecord .lfoTrack k s

/-- RDREC k, fmDlyInvert (field id 0x34, R568). -/
def execRdrecFmDlyInvert (k : Count) (s : State) : StepResult := readRecord .fmDlyInvert k s

/-- RDREC k, portQuant (field id 0x35, R569). -/
def execRdrecPortQuant (k : Count) (s : State) : StepResult := readRecord .portQuant k s

/-- RDREC k, portMatch (field id 0x36, R570). -/
def execRdrecPortMatch (k : Count) (s : State) : StepResult := readRecord .portMatch k s

/-- RDREC k, flag180 (field id 0x37, R571). -/
def execRdrecFlag180 (k : Count) (s : State) : StepResult := readRecord .flag180 k s

/-- RDREC k, flag90 (field id 0x38, R572). -/
def execRdrecFlag90 (k : Count) (s : State) : StepResult := readRecord .flag90 k s

/-- RDREC k, pwmDlyInvert (field id 0x39, R573). -/
def execRdrecPwmDlyInvert (k : Count) (s : State) : StepResult := readRecord .pwmDlyInvert k s

/-- RDREC k, pwmQuant (field id 0x3A, R574). -/
def execRdrecPwmQuant (k : Count) (s : State) : StepResult := readRecord .pwmQuant k s

/-- RDREC k, expoPort (field id 0x3B, R575). -/
def execRdrecExpoPort (k : Count) (s : State) : StepResult := readRecord .expoPort k s

/-- RDREC k, constPort (field id 0x3C, R576). -/
def execRdrecConstPort (k : Count) (s : State) : StepResult := readRecord .constPort k s

/-- RDREC k, lfoRateDelay (field id 0x3D, R577). -/
def execRdrecLfoRateDelay (k : Count) (s : State) : StepResult := readRecord .lfoRateDelay k s

/-- RDREC k, fmQuant (field id 0x3E, R578). -/
def execRdrecFmQuant (k : Count) (s : State) : StepResult := readRecord .fmQuant k s

/-- RDREC k, osc2Wave (field id 0x3F, R579). -/
def execRdrecOsc2Wave (k : Count) (s : State) : StepResult := readRecord .osc2Wave k s

/-- RDREC k, osc1Wave (field id 0x40, R580). -/
def execRdrecOsc1Wave (k : Count) (s : State) : StepResult := readRecord .osc1Wave k s

/-- RDREC k, lfoWave (field id 0x41, R581). -/
def execRdrecLfoWave (k : Count) (s : State) : StepResult := readRecord .lfoWave k s

/-- RDREC k, trigLfoWave (field id 0x42, R582). -/
def execRdrecTrigLfoWave (k : Count) (s : State) : StepResult := readRecord .trigLfoWave k s

/-- RDREC k, volume (field id 0x43, R583). -/
def execRdrecVolume (k : Count) (s : State) : StepResult := readRecord .volume k s

/-- RDREC k, vco2PW (field id 0x44, R584). -/
def execRdrecVco2PW (k : Count) (s : State) : StepResult := readRecord .vco2PW k s

/-- RDREC k, osc2WaveTri (field id 0x45, R585). -/
def execRdrecOsc2WaveTri (k : Count) (s : State) : StepResult := readRecord .osc2WaveTri k s

/-- RDREC k, osc2WaveSqr (field id 0x46, R586). -/
def execRdrecOsc2WaveSqr (k : Count) (s : State) : StepResult := readRecord .osc2WaveSqr k s

/-- RDREC k, osc1WaveTri (field id 0x47, R587). -/
def execRdrecOsc1WaveTri (k : Count) (s : State) : StepResult := readRecord .osc1WaveTri k s

/-- RDREC k, osc1WaveSqr (field id 0x48, R588). -/
def execRdrecOsc1WaveSqr (k : Count) (s : State) : StepResult := readRecord .osc1WaveSqr k s

/-- RDREC k, lfoWaveTri (field id 0x49, R589). -/
def execRdrecLfoWaveTri (k : Count) (s : State) : StepResult := readRecord .lfoWaveTri k s

/-- RDREC k, lfoWaveSqr (field id 0x4A, R590). -/
def execRdrecLfoWaveSqr (k : Count) (s : State) : StepResult := readRecord .lfoWaveSqr k s

/-- RDREC k, lfoWaveSnH (field id 0x4B, R591). -/
def execRdrecLfoWaveSnH (k : Count) (s : State) : StepResult := readRecord .lfoWaveSnH k s

/-- RDREC with a reserved field id 0x4C..0x4F (R314). -/
def execRdrecReserved4C (k : Count) (f : Byte) (s : State) : StepResult := readReservedField f k s

/-- RDREC with a reserved field id 0x50..0x5F (R314). -/
def execRdrecReserved50 (k : Count) (f : Byte) (s : State) : StepResult := readReservedField f k s

/-- RDREC with a reserved field id 0x60..0x7F (R314). -/
def execRdrecReserved60 (k : Count) (f : Byte) (s : State) : StepResult := readReservedField f k s

/-- RDREC with a reserved field id 0x80..0xFF (R314). -/
def execRdrecReserved80 (k : Count) (f : Byte) (s : State) : StepResult := readReservedField f k s

end Sys2Proof.Machine
end

