-- ==== Sys2Proof/Machine/StatusCommands.lean ====
section
/-!
DEFINITION. NOP, RDSTAT, RDNREC, COMBINE (43_host_commands.md R701, R706, R707, R709) and the reserved operation codes
(R710).
-/

namespace Sys2Proof.Machine

/-- R701: NOP. -/
def execNop (s : State) : StepResult := command s (.ok (s.respond 0))

/-- R706: RDSTAT. It is the one command served under fault-stop (R809), and it clears no bit. -/
def execRdstat (s : State) : StepResult := settle s (.ok (s.respond (statusWord s)))

/-- R707: RDNREC. -/
def execRdnrec (s : State) : StepResult := command s (.ok (s.respond (zext32 s.nrec)))

/-- R709: COMBINE l, m. -/
def execCombine (l m : Byte) (s : State) : StepResult := command s (.ok (s.respond (zext32 (combine l m))))

/-- R710: a reserved operation code 0xA or 0xB raises ILLEGAL_CMD whatever its other bits. -/
def execReservedOpAB (_op : BitVec 4) (_low : BitVec 28) (s : State) : StepResult := command s (.error .illegalCmd)

/-- R710: a reserved operation code 0xC..0xF raises ILLEGAL_CMD whatever its other bits. -/
def execReservedOpCF (_op : BitVec 4) (_low : BitVec 28) (s : State) : StepResult := command s (.error .illegalCmd)

end Sys2Proof.Machine
end

