-- ==== Sys2Proof/Machine/Dispatch.lean ====
section
/-!
DEFINITION. One arm for each command of the opcode table: a direct call of its meaning.
-/

namespace Sys2Proof.Machine

/-- The effect of one decoded command on the block. -/
def exec (i : Instr) (s : State) : Host.Outcome State Fault Refusal :=
  match i with
  | .nop => Sys2Proof.Machine.execNop s
  | .wrbuf a d => Sys2Proof.Machine.execWrbuf a d s
  | .rdbuf a => Sys2Proof.Machine.execRdbuf a s
  | .wrlen n => Sys2Proof.Machine.execWrlen n s
  | .rdlen => Sys2Proof.Machine.execRdlen s
  | .start => Sys2Proof.Machine.execStart s
  | .rdstat => Sys2Proof.Machine.execRdstat s
  | .rdnrec => Sys2Proof.Machine.execRdnrec s
  | .rdrecIndex k => Sys2Proof.Machine.execRdrecIndex k s
  | .rdrecGroupNum k => Sys2Proof.Machine.execRdrecGroupNum k s
  | .rdrecGroupMask k => Sys2Proof.Machine.execRdrecGroupMask k s
  | .rdrecNumber k => Sys2Proof.Machine.execRdrecNumber k s
  | .rdrecVcfRel k => Sys2Proof.Machine.execRdrecVcfRel k s
  | .rdrecVcaRel k => Sys2Proof.Machine.execRdrecVcaRel k s
  | .rdrecVcfDcy k => Sys2Proof.Machine.execRdrecVcfDcy k s
  | .rdrecVcaDcy k => Sys2Proof.Machine.execRdrecVcaDcy k s
  | .rdrecVcfAtk k => Sys2Proof.Machine.execRdrecVcfAtk k s
  | .rdrecVcaAtk k => Sys2Proof.Machine.execRdrecVcaAtk k s
  | .rdrecVcfSus k => Sys2Proof.Machine.execRdrecVcfSus k s
  | .rdrecVcaSus k => Sys2Proof.Machine.execRdrecVcaSus k s
  | .rdrecVcfMod k => Sys2Proof.Machine.execRdrecVcfMod k s
  | .rdrecVcfRes k => Sys2Proof.Machine.execRdrecVcfRes k s
  | .rdrecOscPWM k => Sys2Proof.Machine.execRdrecOscPWM k s
  | .rdrecLfoFreq k => Sys2Proof.Machine.execRdrecLfoFreq k s
  | .rdrecFmAmnt k => Sys2Proof.Machine.execRdrecFmAmnt k s
  | .rdrecPwmAmnt k => Sys2Proof.Machine.execRdrecPwmAmnt k s
  | .rdrecPortAmt k => Sys2Proof.Machine.execRdrecPortAmt k s
  | .rdrecOsc2Detune k => Sys2Proof.Machine.execRdrecOsc2Detune k s
  | .rdrecVcfFreq k => Sys2Proof.Machine.execRdrecVcfFreq k s
  | .rdrecVco2Freq k => Sys2Proof.Machine.execRdrecVco2Freq k s
  | .rdrecVco1Freq k => Sys2Proof.Machine.execRdrecVco1Freq k s
  | .rdrecLfoTrigPoint k => Sys2Proof.Machine.execRdrecLfoTrigPoint k s
  | .rdrecPedalSustn k => Sys2Proof.Machine.execRdrecPedalSustn k s
  | .rdrecFmVibRaise k => Sys2Proof.Machine.execRdrecFmVibRaise k s
  | .rdrecPwmVibRaise k => Sys2Proof.Machine.execRdrecPwmVibRaise k s
  | .rdrecFmVibDelay k => Sys2Proof.Machine.execRdrecFmVibDelay k s
  | .rdrecPwmVibDelay k => Sys2Proof.Machine.execRdrecPwmVibDelay k s
  | .rdrecVoiceDetune k => Sys2Proof.Machine.execRdrecVoiceDetune k s
  | .rdrecBendAmount k => Sys2Proof.Machine.execRdrecBendAmount k s
  | .rdrecUnison k => Sys2Proof.Machine.execRdrecUnison k s
  | .rdrecFilterFM k => Sys2Proof.Machine.execRdrecFilterFM k s
  | .rdrecOsc2FM k => Sys2Proof.Machine.execRdrecOsc2FM k s
  | .rdrecOsc2PWM k => Sys2Proof.Machine.execRdrecOsc2PWM k s
  | .rdrecOsc1PWM k => Sys2Proof.Machine.execRdrecOsc1PWM k s
  | .rdrecNoise k => Sys2Proof.Machine.execRdrecNoise k s
  | .rdrecFourPole k => Sys2Proof.Machine.execRdrecFourPole k s
  | .rdrecOsc2On k => Sys2Proof.Machine.execRdrecOsc2On k s
  | .rdrecOsc2Half k => Sys2Proof.Machine.execRdrecOsc2Half k s
  | .rdrecOsc1On k => Sys2Proof.Machine.execRdrecOsc1On k s
  | .rdrecKbdTrack k => Sys2Proof.Machine.execRdrecKbdTrack k s
  | .rdrecPw1180 k => Sys2Proof.Machine.execRdrecPw1180 k s
  | .rdrecVco1180 k => Sys2Proof.Machine.execRdrecVco1180 k s
  | .rdrecVcaMod k => Sys2Proof.Machine.execRdrecVcaMod k s
  | .rdrecFEnv k => Sys2Proof.Machine.execRdrecFEnv k s
  | .rdrecSync k => Sys2Proof.Machine.execRdrecSync k s
  | .rdrecOsc1FM k => Sys2Proof.Machine.execRdrecOsc1FM k s
  | .rdrecSpare k => Sys2Proof.Machine.execRdrecSpare k s
  | .rdrecLegato k => Sys2Proof.Machine.execRdrecLegato k s
  | .rdrecPortBend k => Sys2Proof.Machine.execRdrecPortBend k s
  | .rdrecLfoTrack k => Sys2Proof.Machine.execRdrecLfoTrack k s
  | .rdrecFmDlyInvert k => Sys2Proof.Machine.execRdrecFmDlyInvert k s
  | .rdrecPortQuant k => Sys2Proof.Machine.execRdrecPortQuant k s
  | .rdrecPortMatch k => Sys2Proof.Machine.execRdrecPortMatch k s
  | .rdrecFlag180 k => Sys2Proof.Machine.execRdrecFlag180 k s
  | .rdrecFlag90 k => Sys2Proof.Machine.execRdrecFlag90 k s
  | .rdrecPwmDlyInvert k => Sys2Proof.Machine.execRdrecPwmDlyInvert k s
  | .rdrecPwmQuant k => Sys2Proof.Machine.execRdrecPwmQuant k s
  | .rdrecExpoPort k => Sys2Proof.Machine.execRdrecExpoPort k s
  | .rdrecConstPort k => Sys2Proof.Machine.execRdrecConstPort k s
  | .rdrecLfoRateDelay k => Sys2Proof.Machine.execRdrecLfoRateDelay k s
  | .rdrecFmQuant k => Sys2Proof.Machine.execRdrecFmQuant k s
  | .rdrecOsc2Wave k => Sys2Proof.Machine.execRdrecOsc2Wave k s
  | .rdrecOsc1Wave k => Sys2Proof.Machine.execRdrecOsc1Wave k s
  | .rdrecLfoWave k => Sys2Proof.Machine.execRdrecLfoWave k s
  | .rdrecTrigLfoWave k => Sys2Proof.Machine.execRdrecTrigLfoWave k s
  | .rdrecVolume k => Sys2Proof.Machine.execRdrecVolume k s
  | .rdrecVco2PW k => Sys2Proof.Machine.execRdrecVco2PW k s
  | .rdrecOsc2WaveTri k => Sys2Proof.Machine.execRdrecOsc2WaveTri k s
  | .rdrecOsc2WaveSqr k => Sys2Proof.Machine.execRdrecOsc2WaveSqr k s
  | .rdrecOsc1WaveTri k => Sys2Proof.Machine.execRdrecOsc1WaveTri k s
  | .rdrecOsc1WaveSqr k => Sys2Proof.Machine.execRdrecOsc1WaveSqr k s
  | .rdrecLfoWaveTri k => Sys2Proof.Machine.execRdrecLfoWaveTri k s
  | .rdrecLfoWaveSqr k => Sys2Proof.Machine.execRdrecLfoWaveSqr k s
  | .rdrecLfoWaveSnH k => Sys2Proof.Machine.execRdrecLfoWaveSnH k s
  | .rdrecReserved4C k f => Sys2Proof.Machine.execRdrecReserved4C k f s
  | .rdrecReserved50 k f => Sys2Proof.Machine.execRdrecReserved50 k f s
  | .rdrecReserved60 k f => Sys2Proof.Machine.execRdrecReserved60 k f s
  | .rdrecReserved80 k f => Sys2Proof.Machine.execRdrecReserved80 k f s
  | .combine l m => Sys2Proof.Machine.execCombine l m s
  | .reservedOpAB op low => Sys2Proof.Machine.execReservedOpAB op low s
  | .reservedOpCF op low => Sys2Proof.Machine.execReservedOpCF op low s

end Sys2Proof.Machine
end

