-- ==== Sys2Proof/Machine/Execution.lean ====
section
/-!
DEFINITION. One atomic step of the total order (20_memory.md R208, R211): a host command, a turn of SEQ or a reset.
-/

namespace Sys2Proof.Machine

/-- R310, R803: a word with a must-be-zero bit set raises ILLEGAL_CMD. Under fault-stop it is refused like any
command, but for RDSTAT's operation code, which is served (R809). -/
def execMalformed (op : BitVec 4) (s : State) : StepResult :=
  if op = 0x6#4 then settle s (.error .illegalCmd) else command s (.error .illegalCmd)

/-- R700: one host command, from its word. -/
def commandStep (w : HostWord) (s : State) : StepResult :=
  match decode w with
  | .ok i => exec i s
  | .error (.mustBeZero op) => execMalformed op s

/-- R900: reset sets every piece of the block's state to its reset value. It leaves the configuration and the events
still to come, which are no state of the block (log 13). -/
def resetStep (s : State) : StepResult := .next ((State.resetWith s.config).setPending s.pending)

/-- One event, taken at a state whose pending list no longer holds it. -/
def takeEvent (e : Event) (s : State) : StepResult :=
  match e with
  | .command w => commandStep w s
  | .seq => seqTurn s
  | .reset => resetStep s

/-- R211: the next step of the total order. With no event pending SEQ takes its turn (R909, weak fairness); where it
is not enabled the block waits for the host and nothing changes (log 10). -/
def advance (s : State) : StepResult :=
  match s.pending with
  | [] => seqTurn s
  | e :: rest => takeEvent e (s.setPending rest)

/-- The state with one command word as its next event, before those already pending (log 9). -/
def State.issue (s : State) (w : HostWord) : State := s.setPending (.command w :: s.pending)

end Sys2Proof.Machine
end

