-- ==== Sys2Proof/Machine/Step.lean ====
section
/-!
DEFINITION. The step of the machine, and the state in which a given command word is taken next.
-/

namespace Sys2Proof.Machine

/-- One atomic step (20_memory.md R208, R211). -/
def step (s : State) : Host.Outcome State Fault Refusal := Sys2Proof.Machine.advance s

/-- `s` with the command word of `nbits` bits and value `w`, the bits above them zero, as the next event: the host
issues it and the very next step takes it (log 9). -/
def State.withFetchWord (s : State) (nbits w : Nat) : State := s.issue (BitVec.ofNat 32 (w % 2 ^ nbits))

end Sys2Proof.Machine
end

