-- ==== Sys2Proof/Machine/Assembler.lean ====
section
/-!
DEFINITION. The host's notation: the assembler syntax of 30_encoding.md R315 and the pseudo-instructions of R316. These
are host-side; no step of the block uses them. Where R315 leaves the text open (spaces, letter case), log 16 says what
is taken.
-/

namespace Sys2Proof.Machine

/-- Why a line of a host program is no command. All of these are assembly errors, not commands (R315). -/
inductive AsmError where
  /-- No mnemonic of R315 or R316. -/
  | unknownMnemonic
  /-- The mnemonic has another number of operands. -/
  | operandCount
  /-- An operand is no number and no field name. -/
  | badOperand
  /-- An operand does not fit its field. -/
  | operandTooWide
deriving DecidableEq, Repr

/-- What a line of a host program has the host do. -/
inductive HostAction where
  /-- Issue one command word. -/
  | issue (w : HostWord)
  /-- R316, WAITIDLE: issue RDSTAT again while `waitAgain` holds of its response. -/
  | waitIdle
deriving DecidableEq, Repr

/-- R316, WAITIDLE: "repeat RDSTAT while `rsp[1:0] = 1` and `rsp[12:8] = 0`". -/
def waitAgain (rsp : HostWord) : Bool := rsp.extractLsb' 0 2 == 1 && rsp.extractLsb' 8 5 == 0

/-- 00_scope.md R10: the key string of a field, the source's identifier but for "180" and "90". -/
def fieldKey : Field → String
  | .index => "index"
  | .groupNum => "groupNum"
  | .groupMask => "groupMask"
  | .number => "number"
  | .vcfRel => "vcfRel"
  | .vcaRel => "vcaRel"
  | .vcfDcy => "vcfDcy"
  | .vcaDcy => "vcaDcy"
  | .vcfAtk => "vcfAtk"
  | .vcaAtk => "vcaAtk"
  | .vcfSus => "vcfSus"
  | .vcaSus => "vcaSus"
  | .vcfMod => "vcfMod"
  | .vcfRes => "vcfRes"
  | .oscPWM => "oscPWM"
  | .lfoFreq => "lfoFreq"
  | .fmAmnt => "fmAmnt"
  | .pwmAmnt => "pwmAmnt"
  | .portAmt => "portAmt"
  | .osc2Detune => "osc2Detune"
  | .vcfFreq => "vcfFreq"
  | .vco2Freq => "vco2Freq"
  | .vco1Freq => "vco1Freq"
  | .lfoTrigPoint => "lfoTrigPoint"
  | .pedalSustn => "pedalSustn"
  | .fmVibRaise => "fmVibRaise"
  | .pwmVibRaise => "pwmVibRaise"
  | .fmVibDelay => "fmVibDelay"
  | .pwmVibDelay => "pwmVibDelay"
  | .voiceDetune => "voiceDetune"
  | .bendAmount => "bendAmount"
  | .unison => "unison"
  | .filterFM => "filterFM"
  | .osc2FM => "osc2FM"
  | .osc2PWM => "osc2PWM"
  | .osc1PWM => "osc1PWM"
  | .noise => "noise"
  | .fourPole => "fourPole"
  | .osc2On => "osc2On"
  | .osc2Half => "osc2Half"
  | .osc1On => "osc1On"
  | .kbdTrack => "kbdTrack"
  | .pw1180 => "pw1180"
  | .vco1180 => "vco1180"
  | .vcaMod => "vcaMod"
  | .fEnv => "fEnv"
  | .sync => "sync"
  | .osc1FM => "osc1FM"
  | .spare => "spare"
  | .legato => "legato"
  | .portBend => "portBend"
  | .lfoTrack => "lfoTrack"
  | .fmDlyInvert => "fmDlyInvert"
  | .portQuant => "portQuant"
  | .portMatch => "portMatch"
  | .flag180 => "180"
  | .flag90 => "90"
  | .pwmDlyInvert => "pwmDlyInvert"
  | .pwmQuant => "pwmQuant"
  | .expoPort => "expoPort"
  | .constPort => "constPort"
  | .lfoRateDelay => "lfoRateDelay"
  | .fmQuant => "fmQuant"
  | .osc2Wave => "osc2Wave"
  | .osc1Wave => "osc1Wave"
  | .lfoWave => "lfoWave"
  | .trigLfoWave => "trigLfoWave"
  | .volume => "volume"
  | .vco2PW => "vco2PW"
  | .osc2WaveTri => "osc2WaveTri"
  | .osc2WaveSqr => "osc2WaveSqr"
  | .osc1WaveTri => "osc1WaveTri"
  | .osc1WaveSqr => "osc1WaveSqr"
  | .lfoWaveTri => "lfoWaveTri"
  | .lfoWaveSqr => "lfoWaveSqr"
  | .lfoWaveSnH => "lfoWaveSnH"

/-- R10, R315: the identifier of a field, by which RDREC may name it. -/
def fieldName : Field → String
  | .flag180 => "flag180"
  | .flag90 => "flag90"
  | f => fieldKey f

/-- A character that separates words: a space or a tab. -/
def isBlank (c : Char) : Bool := c == ' ' || c == '\t'

/-- A text without the blanks at either end. -/
def trim (cs : List Char) : List Char := ((cs.dropWhile isBlank).reverse.dropWhile isBlank).reverse

/-- R315: `;` starts a comment. -/
def withoutComment (cs : List Char) : List Char := cs.takeWhile (· != ';')

/-- The operands of a line, which commas separate. -/
def splitCommas : List Char → List (List Char)
  | [] => [[]]
  | c :: cs =>
    if c == ',' then [] :: splitCommas cs
    else
      match splitCommas cs with
      | [] => [[c]]
      | x :: xs => (c :: x) :: xs

/-- R315: the digits of a number in rising order; a decimal number has the first ten of them. -/
def digitRow : List Char := "0123456789ABCDEF".toList

/-- The value of a digit, which is its place in the row; `none` for another character. A letter may stand in either
case (log 16). -/
def digitValue (c : Char) : Option Nat := digitRow.findIdx? fun d => d == c.toUpper

/-- The digits `cs` in a base, after a prefix of value `acc`. -/
def parseDigits (base : Nat) : Nat → List Char → Option Nat
  | acc, [] => some acc
  | acc, c :: cs =>
    match digitValue c with
    | none => none
    | some d => if d < base then parseDigits base (acc * base + d) cs else none

/-- R315: numbers are decimal or `0x` hexadecimal. -/
def parseNumber : List Char → Option Nat
  | [] => none
  | ['0', 'x'] => none
  | '0' :: 'x' :: cs => parseDigits 16 0 cs
  | cs => parseDigits 10 0 cs

/-- R315: an operand that does not fit its field is an assembly error. -/
def fits (w n : Nat) : Except AsmError (BitVec w) :=
  if n < 2 ^ w then .ok (BitVec.ofNat w n) else .error .operandTooWide

/-- A numeric operand of a given width. -/
def operand (w : Nat) (cs : List Char) : Except AsmError (BitVec w) :=
  match parseNumber cs with
  | none => .error .badOperand
  | some n => fits w n

/-- R315: RDREC's `f` is a field name of R313 or a number. -/
def fieldOperand (cs : List Char) : Except AsmError Byte :=
  match fieldTable.find? (fun f => (fieldName f).toList == cs) with
  | some f => .ok f.id
  | none => operand 8 cs

/-- R316: `WRBUF a+j, bj` for the bytes in turn. -/
def loadWords : Nat → List Byte → Except AsmError (List HostAction)
  | _, [] => .ok []
  | a, b :: bs =>
    match fits 20 a, loadWords (a + 1) bs with
    | .ok x, .ok rest => .ok (.issue (commandWord 0x1 x b) :: rest)
    | .error e, _ => .error e
    | _, .error e => .error e

/-- A list of byte operands. -/
def byteOperands : List (List Char) → Except AsmError (List Byte)
  | [] => .ok []
  | cs :: rest =>
    match operand 8 cs, byteOperands rest with
    | .ok b, .ok bs => .ok (b :: bs)
    | .error e, _ => .error e
    | _, .error e => .error e

/-- One word, from its fields. -/
def oneWord (op : BitVec 4) (a : Except AsmError Count) (d : Except AsmError Byte) :
    Except AsmError (List HostAction) :=
  match a, d with
  | .ok x, .ok y => .ok [.issue (commandWord op x y)]
  | .error e, _ => .error e
  | _, .error e => .error e

/-- R316: `LOADBUF a, b0, b1, ..., bn−1`. -/
def loadBuf (a : List Char) (bytes : List (List Char)) : Except AsmError (List HostAction) :=
  match operand 20 a, byteOperands bytes with
  | .ok x, .ok bs => loadWords x.toNat bs
  | .error e, _ => .error e
  | _, .error e => .error e

/-- R316: `FILLBUF a, n, b`. -/
def fillBuf (a n b : List Char) : Except AsmError (List HostAction) :=
  match operand 20 a, parseNumber n, operand 8 b with
  | .ok x, some m, .ok y => loadWords x.toNat (List.replicate m y)
  | .error e, _, _ => .error e
  | _, none, _ => .error .badOperand
  | _, _, .error e => .error e

/-- R315: `COMBINE l, m`, the lsb operand first. -/
def combineLine (l m : List Char) : Except AsmError (List HostAction) :=
  match operand 8 l, operand 8 m with
  | .ok x, .ok y => .ok [.issue (combineWord x y)]
  | .error e, _ => .error e
  | _, .error e => .error e

/-- The mnemonics of R315 and R316. -/
def mnemonics : List String :=
  ["NOP", "WRBUF", "RDBUF", "WRLEN", "RDLEN", "START", "RDSTAT", "RDNREC", "RDREC", "COMBINE", "LOADBUF",
   "FILLBUF", "WAITIDLE"]

/-- R315, R316: a mnemonic with its operands. -/
def assembleWith (mnemonic : String) (ops : List (List Char)) : Except AsmError (List HostAction) :=
  match mnemonic, ops with
  | "NOP", [] => oneWord 0x0 (.ok 0) (.ok 0)
  | "WRBUF", [a, d] => oneWord 0x1 (operand 20 a) (operand 8 d)
  | "RDBUF", [a] => oneWord 0x2 (operand 20 a) (.ok 0)
  | "WRLEN", [n] => oneWord 0x3 (operand 20 n) (.ok 0)
  | "RDLEN", [] => oneWord 0x4 (.ok 0) (.ok 0)
  | "START", [] => oneWord 0x5 (.ok 0) (.ok 0)
  | "RDSTAT", [] => oneWord 0x6 (.ok 0) (.ok 0)
  | "RDNREC", [] => oneWord 0x7 (.ok 0) (.ok 0)
  | "RDREC", [k, f] => oneWord 0x8 (operand 20 k) (fieldOperand f)
  | "COMBINE", [l, m] => combineLine l m
  | "LOADBUF", a :: bytes => loadBuf a bytes
  | "FILLBUF", [a, n, b] => fillBuf a n b
  | "WAITIDLE", [] => .ok [.waitIdle]
  | m, _ => if mnemonics.contains m then .error .operandCount else .error .unknownMnemonic

/-- R315: one line of a host program: a mnemonic, then operands separated by commas, then perhaps a comment. An
empty line does nothing. -/
def assembleLine (line : String) : Except AsmError (List HostAction) :=
  let text := trim (withoutComment line.toList)
  let head := text.takeWhile fun c => !isBlank c
  let rest := trim (text.dropWhile fun c => !isBlank c)
  if text.isEmpty then .ok []
  else assembleWith (String.ofList head) (if rest.isEmpty then [] else (splitCommas rest).map trim)

end Sys2Proof.Machine
end

