-- ==== Sys2Proof/Safety.lean ====
section
/-!
DEFINITION. The terms that claims about the block use: faulted and ended states, the result of a run
(70_reset_and_hazards.md R911), and the invariants (10_state.md R111, R212, R814).
-/

namespace Sys2Proof.Machine

/-- R809, R911: a state with FAULT ≠ 0 is faulted and never an end. -/
abbrev Faulted (s : State) : Prop := s.fault ≠ 0

/-- R911: the end of a run of one bank decode. -/
abbrev RunEnded (s : State) : Prop := s.fault = 0 ∧ (s.phase = .done ∨ s.phase = .fmtErr)

/-- R911: the result of an ended run, `(STATE, FMT_CAUSE, NREC, REC[0..NREC−1])`. -/
def runResult (s : State) : Phase × BitVec 2 × Count × List ProgramRecord :=
  (s.phase, s.fmtCause, s.nrec, (List.range s.nrec.toNat).map s.record)

/-- The stores are in canonical form and hold nothing outside their address spaces (20_memory.md R200, R210). -/
abbrev StoresCanonical (s : State) : Prop :=
  s.buf.wf = true ∧ (s.buf.all fun c => decide (c.1 < s.config.bufCap)) = true ∧
    Store.wf s.records = true ∧ (s.records.all fun c => decide (c.1 < s.config.recCap)) = true

/-- R111 (a) to (e) and R108, as far as one state shows them: that NREC is LEN div 60 of the LEN at START is a
statement about a run (R605). -/
abbrev RegistersConsistent (s : State) : Prop :=
  s.len.toNat ≤ s.config.bufCap ∧
  (s.phase = .idle → s.nrec = 0 ∧ s.fmtCause = 0) ∧
  (s.phase = .fmtErr → s.nrec = 0 ∧ s.fmtCause ≠ 0) ∧
  (s.phase = .busy → s.fmtCause = 0 ∧ s.len.toNat % 60 = 0 ∧ 60 ≤ s.len.toNat ∧ s.nrec.toNat < s.len.toNat / 60) ∧
  (s.phase = .done → s.fmtCause = 0 ∧ 1 ≤ s.nrec.toNat ∧ s.nrec.toNat ≤ s.config.recCap)

/-- R212: every record below NREC has been written. -/
abbrev RecordsWritten (s : State) : Prop := ∀ i, i < s.nrec.toNat → (Store.read s.records i).isSome = true

/-- R814: FAULT holds no bit, one bit, or one bit together with ILLEGAL_CMD. -/
abbrev FaultShape (s : State) : Prop :=
  s.fault = 0 ∨ ∃ b : FaultBit, s.fault = b.mask ∨ s.fault = b.mask ||| FaultBit.illegalCmd.mask

/-- R903 step 1, R907: every byte that SEQ reads of the blocks below LEN div 60 has been written. -/
abbrev BlocksWritten (s : State) : Prop :=
  ∀ i j, i < s.len.toNat / 60 → 4 ≤ j → j ≤ 58 → s.bufValid (60 * i + j) = true

/-- R301: a valid bank buffer: LEN is a positive multiple of 60 and the buffer begins with the magic. -/
abbrev BankHeaderGood (s : State) : Prop :=
  0 < s.len.toNat ∧ s.len.toNat % 60 = 0 ∧ s.buf.read 0 = some 0xF0 ∧ s.buf.read 1 = some 0x10 ∧
    s.buf.read 2 = some 0x01 ∧ s.buf.read 3 = some 0x01

/-- The rules R520 to R546: a 6-bit field is bits 7..2 of the logical byte of a pair. -/
abbrev UpperSixOfPair (v : BitVec 6) (lsb msb : Byte) : Prop := v.toNat = (combine lsb msb).toNat / 4

/-- The rules R547 to R578: a flag is bit `b` of the logical byte of a pair; and, by the sentence that these rules mark
[derived: from 40_nibble_combiner.md rule R400], bit `b` of the pair's low-nibble byte. -/
abbrev FlagOfPair (v : BitVec 1) (lsb msb : Byte) (b : Nat) : Prop :=
  v.toNat = (combine lsb msb).toNat / 2 ^ b % 2 ∧ v.toNat = lsb.toNat / 2 ^ b % 2

end Sys2Proof.Machine
end

