-- ==== Sys2Proof/Certificates/Slice0/Obligations.lean ====
section
/-!
DEFINITION. The statements for the provers, each formalising rules of spec/. A title that names a log entry says where
a clause rests on a choice of the model.
-/

open Sys2Proof Sys2Proof.Machine

/-- Decoding an encoded command gives the command. For every well-formed command, with every operand at every
value its encoding admits, decode of encode is that command. (R308, R309, R310, R313, R314) -/
def Obligations.DecodeOfEncode : Prop :=
  ∀ i : Instr, i.wellFormed = true → decode (encode i) = .ok i

/-- A word that decodes is the word of the command it decodes to. Whatever command a 32-bit word decodes to is
well-formed, and its encoding is that word: no bit of a command word is dropped. (R308, R309, R310, R313, R314)
-/
def Obligations.EncodeOfDecode : Prop :=
  ∀ (w : HostWord) (i : Instr), decode w = .ok i → encode i = w ∧ i.wellFormed = true

/-- The words that the decoder rejects are exactly those with a must-be-zero bit set. Decoding a word gives an
error, of whatever kind, exactly when bits 27..0 are nonzero under OP 0, 4, 5, 6 or 7, bits 7..0 are nonzero under
OP 2 or 3, or bits 27..16 are nonzero under OP 9; and an error names the word's own operation code. (That such a
word is no constructor of Instr, while the reserved OP 0xA..0xF and field ids 0x4C..0xFF, which raise ILLEGAL_CMD
like it, are constructors, is the model's reading of the opcode table: log 8, DEDUCED.) (R309, R310) -/
def Obligations.DecodeRejectsMustBeZeroWords : Prop :=
  (∀ w : HostWord,
    (∃ e, decode w = .error e) ↔
      ((cmdOp w = 0x0 ∨ cmdOp w = 0x4 ∨ cmdOp w = 0x5 ∨ cmdOp w = 0x6 ∨ cmdOp w = 0x7) ∧ cmdLow w ≠ 0) ∨
        ((cmdOp w = 0x2 ∨ cmdOp w = 0x3) ∧ cmdD w ≠ 0) ∨ (cmdOp w = 0x9 ∧ cmdHigh w ≠ 0)) ∧
  ∀ (w : HostWord) (op : BitVec 4), decode w = .error (.mustBeZero op) → op = cmdOp w

/-- The command words that the spec writes out decode to the commands it names. One word of each operation code,
as 95_test_vectors.md and the rules write them, decodes to the command the spec gives. (95_test_vectors.md Part
5, R309, R313) -/
def Obligations.SpecWordsDecode : Prop :=
  decode 0x00000000 = .ok .nop ∧ decode 0x10000410 = .ok (.wrbuf 4 0x10) ∧ decode 0x20000400 = .ok (.rdbuf 4) ∧
    decode 0x30003C00 = .ok (.wrlen 60) ∧ decode 0x40000000 = .ok .rdlen ∧ decode 0x50000000 = .ok .start ∧
    decode 0x60000000 = .ok .rdstat ∧ decode 0x70000000 = .ok .rdnrec ∧ decode 0x80000143 = .ok (.rdrecVolume 1) ∧
    decode 0x8000004C = .ok (.rdrecReserved4C 0 0x4C) ∧ decode 0x9000030A = .ok (.combine 0x0A 0x03) ∧
    decode 0xA0000000 = .ok (.reservedOpAB 0xA 0) ∧ decode 0xFFFFFFFF = .ok (.reservedOpCF 0xF 0xFFFFFFF)

/-- The nibble combiner ORs the low byte with the high byte's low nibble. combine(lsb, msb) is lsb | ((msb &
0xF) << 4); its low nibble is that of lsb and its high nibble is lsb[7:4] | msb[3:0]; combine(0, 0) = 0,
combine(0x0F, 0x0F) = 0xFF and combine(0x0A, 0x03) = 0x3A. (R400) -/
def Obligations.CombineMergesNibbles : Prop :=
  (∀ lsb msb : Byte,
    combine lsb msb = lsb ||| ((msb &&& 0xF) <<< 4) ∧
      (combine lsb msb).toNat = lsb.toNat ||| (msb.toNat % 16 * 16) ∧
      (combine lsb msb).extractLsb' 0 4 = lsb.extractLsb' 0 4 ∧
      (combine lsb msb).extractLsb' 4 4 = lsb.extractLsb' 4 4 ||| msb.extractLsb' 0 4) ∧
    combine 0 0 = 0 ∧ combine 0x0F 0x0F = 0xFF ∧ combine 0x0A 0x03 = 0x3A

/-- The combiner ignores the high nibble of msb and is a concatenation for a clean lsb. combine is not commutative
(0x3A against 0xA3), does not depend on msb[7:4], keeps lsb[3:0], and for lsb < 0x10 is the concatenation of
msb[3:0] and lsb[3:0], (msb[3:0] << 4) + lsb. (R402) -/
def Obligations.CombineLaws : Prop :=
  combine 0x0A 0x03 = 0x3A ∧ combine 0x03 0x0A = 0xA3 ∧
    ∀ lsb msb : Byte,
      combine lsb msb = combine lsb (msb &&& 0xF) ∧
        (combine lsb msb).extractLsb' 0 4 = lsb.extractLsb' 0 4 ∧
        (lsb.toNat < 0x10 →
          (combine lsb msb).toNat = msb.toNat % 16 * 16 + lsb.toNat ∧
            combine lsb msb = msb.extractLsb' 0 4 ++ lsb.extractLsb' 0 4)

/-- The header fields come from the index byte by division and remainder. For every block: index is byte 4;
groupNum is index div 8 + 1 (1..32); groupMask is its low four bits; number is index mod 8 + 1 (1..8). (R503,
R504, R505, R506) -/
def Obligations.HeaderFieldsOfIndex : Prop :=
  ∀ blk : Block,
    (decodeProgram blk).index = blk 4 ∧
      (decodeProgram blk).groupNum.toNat = (blk 4).toNat / 8 + 1 ∧
      (decodeProgram blk).groupMask.toNat = ((blk 4).toNat / 8 + 1) % 16 ∧
      (decodeProgram blk).number.toNat = (blk 4).toNat % 8 + 1

/-- Continuous fields vcfRel to vcfMod: bits 7..2 of logical bytes 0 to 8. For every block, each of the fields
vcfRel, vcaRel, vcfDcy, vcaDcy, vcfAtk, vcaAtk, vcfSus, vcaSus, vcfMod is the logical byte of its pair,
combine(blk[5+2k], blk[6+2k]), divided by 4. (R520, R521, R522, R523, R524, R525, R526, R527, R528) -/
def Obligations.ContinuousFieldsFirstNine : Prop :=
  ∀ blk : Block,
    UpperSixOfPair (decodeProgram blk).vcfRel (blk 5) (blk 6) ∧
      UpperSixOfPair (decodeProgram blk).vcaRel (blk 7) (blk 8) ∧
      UpperSixOfPair (decodeProgram blk).vcfDcy (blk 9) (blk 10) ∧
      UpperSixOfPair (decodeProgram blk).vcaDcy (blk 11) (blk 12) ∧
      UpperSixOfPair (decodeProgram blk).vcfAtk (blk 13) (blk 14) ∧
      UpperSixOfPair (decodeProgram blk).vcaAtk (blk 15) (blk 16) ∧
      UpperSixOfPair (decodeProgram blk).vcfSus (blk 17) (blk 18) ∧
      UpperSixOfPair (decodeProgram blk).vcaSus (blk 19) (blk 20) ∧
      UpperSixOfPair (decodeProgram blk).vcfMod (blk 21) (blk 22)

/-- Continuous fields vcfRes to vco2Freq: bits 7..2 of logical bytes 9 to 17. For every block, each of the
fields vcfRes, oscPWM, lfoFreq, fmAmnt, pwmAmnt, portAmt, osc2Detune, vcfFreq, vco2Freq is the logical byte of
its pair, combine(blk[5+2k], blk[6+2k]), divided by 4. (R529, R530, R531, R532, R533, R534, R535, R536, R537) -/
def Obligations.ContinuousFieldsSecondNine : Prop :=
  ∀ blk : Block,
    UpperSixOfPair (decodeProgram blk).vcfRes (blk 23) (blk 24) ∧
      UpperSixOfPair (decodeProgram blk).oscPWM (blk 25) (blk 26) ∧
      UpperSixOfPair (decodeProgram blk).lfoFreq (blk 27) (blk 28) ∧
      UpperSixOfPair (decodeProgram blk).fmAmnt (blk 29) (blk 30) ∧
      UpperSixOfPair (decodeProgram blk).pwmAmnt (blk 31) (blk 32) ∧
      UpperSixOfPair (decodeProgram blk).portAmt (blk 33) (blk 34) ∧
      UpperSixOfPair (decodeProgram blk).osc2Detune (blk 35) (blk 36) ∧
      UpperSixOfPair (decodeProgram blk).vcfFreq (blk 37) (blk 38) ∧
      UpperSixOfPair (decodeProgram blk).vco2Freq (blk 39) (blk 40)

/-- Continuous fields vco1Freq to bendAmount: bits 7..2 of logical bytes 18 to 26. For every block, each of the
fields vco1Freq, lfoTrigPoint, pedalSustn, fmVibRaise, pwmVibRaise, fmVibDelay, pwmVibDelay, voiceDetune,
bendAmount is the logical byte of its pair, combine(blk[5+2k], blk[6+2k]), divided by 4. (R538, R539, R540,
R541, R542, R543, R544, R545, R546) -/
def Obligations.ContinuousFieldsThirdNine : Prop :=
  ∀ blk : Block,
    UpperSixOfPair (decodeProgram blk).vco1Freq (blk 41) (blk 42) ∧
      UpperSixOfPair (decodeProgram blk).lfoTrigPoint (blk 43) (blk 44) ∧
      UpperSixOfPair (decodeProgram blk).pedalSustn (blk 45) (blk 46) ∧
      UpperSixOfPair (decodeProgram blk).fmVibRaise (blk 47) (blk 48) ∧
      UpperSixOfPair (decodeProgram blk).pwmVibRaise (blk 49) (blk 50) ∧
      UpperSixOfPair (decodeProgram blk).fmVibDelay (blk 51) (blk 52) ∧
      UpperSixOfPair (decodeProgram blk).pwmVibDelay (blk 53) (blk 54) ∧
      UpperSixOfPair (decodeProgram blk).voiceDetune (blk 55) (blk 56) ∧
      UpperSixOfPair (decodeProgram blk).bendAmount (blk 57) (blk 58)

/-- Flags unison to kbdTrack: one bit of a logical byte. For every block, each of the flags unison, filterFM,
osc2FM, osc2PWM, osc1PWM, noise, fourPole, osc2On, osc2Half, osc1On, kbdTrack is its bit of the logical byte of its
pair, which is that bit of the pair's low-nibble byte. (That a flag is a bit of the low-nibble byte is the sentence
of these rules which the spec marks as its own inference: "Because `combine` passes `lsb[3:0]` through unchanged,
the flag equals bit 0 of `blk[7]`, and `blk[8]` cannot affect it [derived: from 40_nibble_combiner.md rule R400]",
so of unison (R547), and of the others with their own bits and bytes.) (R547, R548, R549, R550, R551, R552, R553,
R554, R555, R556, R557) -/
def Obligations.FlagsFirstGroup : Prop :=
  ∀ blk : Block,
    FlagOfPair (decodeProgram blk).unison (blk 7) (blk 8) 0 ∧
      FlagOfPair (decodeProgram blk).filterFM (blk 9) (blk 10) 1 ∧
      FlagOfPair (decodeProgram blk).osc2FM (blk 9) (blk 10) 0 ∧
      FlagOfPair (decodeProgram blk).osc2PWM (blk 15) (blk 16) 1 ∧
      FlagOfPair (decodeProgram blk).osc1PWM (blk 15) (blk 16) 0 ∧
      FlagOfPair (decodeProgram blk).noise (blk 17) (blk 18) 1 ∧
      FlagOfPair (decodeProgram blk).fourPole (blk 17) (blk 18) 0 ∧
      FlagOfPair (decodeProgram blk).osc2On (blk 19) (blk 20) 1 ∧
      FlagOfPair (decodeProgram blk).osc2Half (blk 19) (blk 20) 0 ∧
      FlagOfPair (decodeProgram blk).osc1On (blk 21) (blk 22) 1 ∧
      FlagOfPair (decodeProgram blk).kbdTrack (blk 21) (blk 22) 0

/-- Flags pw1180 to fmDlyInvert: one bit of a logical byte. For every block, each of the flags pw1180, vco1180,
vcaMod, fEnv, sync, osc1FM, spare, legato, portBend, lfoTrack, fmDlyInvert is its bit of the logical byte of its
pair, which is that bit of the pair's low-nibble byte. (That a flag is a bit of the low-nibble byte is the sentence
of these rules which the spec marks as its own inference: "Because `combine` passes `lsb[3:0]` through unchanged,
the flag equals bit 1 of `blk[23]`, and `blk[24]` cannot affect it [derived: from 40_nibble_combiner.md rule
R400]", so of pw1180 (R558), and of the others with their own bits and bytes.) (R558, R559, R560, R561, R562, R563,
R564, R565, R566, R567, R568) -/
def Obligations.FlagsSecondGroup : Prop :=
  ∀ blk : Block,
    FlagOfPair (decodeProgram blk).pw1180 (blk 23) (blk 24) 1 ∧
      FlagOfPair (decodeProgram blk).vco1180 (blk 23) (blk 24) 0 ∧
      FlagOfPair (decodeProgram blk).vcaMod (blk 25) (blk 26) 1 ∧
      FlagOfPair (decodeProgram blk).fEnv (blk 25) (blk 26) 0 ∧
      FlagOfPair (decodeProgram blk).sync (blk 27) (blk 28) 1 ∧
      FlagOfPair (decodeProgram blk).osc1FM (blk 27) (blk 28) 0 ∧
      FlagOfPair (decodeProgram blk).spare (blk 41) (blk 42) 1 ∧
      FlagOfPair (decodeProgram blk).legato (blk 41) (blk 42) 0 ∧
      FlagOfPair (decodeProgram blk).portBend (blk 45) (blk 46) 0 ∧
      FlagOfPair (decodeProgram blk).lfoTrack (blk 47) (blk 48) 1 ∧
      FlagOfPair (decodeProgram blk).fmDlyInvert (blk 47) (blk 48) 0

/-- Flags portQuant to fmQuant: one bit of a logical byte. For every block, each of the flags portQuant, portMatch,
flag180, flag90, pwmDlyInvert, pwmQuant, expoPort, constPort, lfoRateDelay, fmQuant is its bit of the logical byte
of its pair, which is that bit of the pair's low-nibble byte. (That a flag is a bit of the low-nibble byte is the
sentence of these rules which the spec marks as its own inference: "Because `combine` passes `lsb[3:0]` through
unchanged, the flag equals bit 1 of `blk[49]`, and `blk[50]` cannot affect it [derived: from 40_nibble_combiner.md
rule R400]", so of portQuant (R569), and of the others with their own bits and bytes.) (R569, R570, R571, R572,
R573, R574, R575, R576, R577, R578) -/
def Obligations.FlagsThirdGroup : Prop :=
  ∀ blk : Block,
    FlagOfPair (decodeProgram blk).portQuant (blk 49) (blk 50) 1 ∧
      FlagOfPair (decodeProgram blk).portMatch (blk 49) (blk 50) 0 ∧
      FlagOfPair (decodeProgram blk).flag180 (blk 51) (blk 52) 1 ∧
      FlagOfPair (decodeProgram blk).flag90 (blk 51) (blk 52) 0 ∧
      FlagOfPair (decodeProgram blk).pwmDlyInvert (blk 53) (blk 54) 1 ∧
      FlagOfPair (decodeProgram blk).pwmQuant (blk 53) (blk 54) 0 ∧
      FlagOfPair (decodeProgram blk).expoPort (blk 55) (blk 56) 1 ∧
      FlagOfPair (decodeProgram blk).constPort (blk 55) (blk 56) 0 ∧
      FlagOfPair (decodeProgram blk).lfoRateDelay (blk 57) (blk 58) 1 ∧
      FlagOfPair (decodeProgram blk).fmQuant (blk 57) (blk 58) 0

/-- Selectors and composites take the low bits of consecutive logical bytes, the lower index most significant. For
every block with logical bytes d[k]: osc2Wave = d[3] mod 4 and osc1Wave = d[4] mod 4 (the low bits of blk[11],
blk[13]); lfoWave = (d[0] mod 4) * 2 + bit 1 of d[1]; trigLfoWave the same of d[19], d[20]; volume = 16, 4, 1 times
d[12], d[13], d[14] mod 4 (the low bits of blk[29], blk[31], blk[33]); vco2PW the same of d[15], d[16], d[17]
(blk[35], blk[37], blk[39]). (The clauses on the bytes of the block are sentences that the spec marks as its own
inference: "It equals `blk[11][1:0]`" in R579, "It equals `blk[13][1:0]`" in R580, "Each 2-bit slice equals `blk[29
+ 2j][1:0]` for j = 0, 1, 2" in R583 and "Each 2-bit slice equals `blk[35 + 2j][1:0]` for j = 0, 1, 2" in R584,
each [derived: from 40_nibble_combiner.md rule R400].) (R579, R580, R581, R582, R583, R584) -/
def Obligations.SelectorsAndComposites : Prop :=
  ∀ blk : Block,
    ((decodeProgram blk).osc2Wave.toNat = (logicalByte blk 3).toNat % 4 ∧
      (decodeProgram blk).osc2Wave.toNat = (blk 11).toNat % 4) ∧
    ((decodeProgram blk).osc1Wave.toNat = (logicalByte blk 4).toNat % 4 ∧
      (decodeProgram blk).osc1Wave.toNat = (blk 13).toNat % 4) ∧
    (decodeProgram blk).lfoWave.toNat =
      (logicalByte blk 0).toNat % 4 * 2 + (logicalByte blk 1).toNat / 2 % 2 ∧
    (decodeProgram blk).trigLfoWave.toNat =
      (logicalByte blk 19).toNat % 4 * 2 + (logicalByte blk 20).toNat / 2 % 2 ∧
    ((decodeProgram blk).volume.toNat =
      (logicalByte blk 12).toNat % 4 * 16 + (logicalByte blk 13).toNat % 4 * 4 + (logicalByte blk 14).toNat % 4 ∧
      (decodeProgram blk).volume.toNat =
        (blk 29).toNat % 4 * 16 + (blk 31).toNat % 4 * 4 + (blk 33).toNat % 4) ∧
    ((decodeProgram blk).vco2PW.toNat =
      (logicalByte blk 15).toNat % 4 * 16 + (logicalByte blk 16).toNat % 4 * 4 + (logicalByte blk 17).toNat % 4 ∧
      (decodeProgram blk).vco2PW.toNat =
        (blk 35).toNat % 4 * 16 + (blk 37).toNat % 4 * 4 + (blk 39).toNat % 4)

/-- The derived flags are the bits of the selectors they are kept beside. For every block: osc2WaveTri,
osc2WaveSqr are bits 0, 1 of osc2Wave; osc1WaveTri, osc1WaveSqr of osc1Wave; lfoWaveTri, lfoWaveSqr, lfoWaveSnH
are bits 0, 1, 2 of lfoWave. (R585, R586, R587, R588, R589, R590, R591) -/
def Obligations.DerivedFlagsReadTheSelectors : Prop :=
  ∀ blk : Block,
    (decodeProgram blk).osc2WaveTri.toNat = (decodeProgram blk).osc2Wave.toNat % 2 ∧
      (decodeProgram blk).osc2WaveSqr.toNat = (decodeProgram blk).osc2Wave.toNat / 2 % 2 ∧
      (decodeProgram blk).osc1WaveTri.toNat = (decodeProgram blk).osc1Wave.toNat % 2 ∧
      (decodeProgram blk).osc1WaveSqr.toNat = (decodeProgram blk).osc1Wave.toNat / 2 % 2 ∧
      (decodeProgram blk).lfoWaveTri.toNat = (decodeProgram blk).lfoWave.toNat % 2 ∧
      (decodeProgram blk).lfoWaveSqr.toNat = (decodeProgram blk).lfoWave.toNat / 2 % 2 ∧
      (decodeProgram blk).lfoWaveSnH.toNat = (decodeProgram blk).lfoWave.toNat / 4 % 2

/-- A record depends on bytes 4 to 58 of its block alone. Two blocks that agree at the offsets 4..58 decode to
the same record, whatever stands at the offsets 0..3 and 59. (R502, R509, R307) -/
def Obligations.DecodeReadsOnlyFiftyFiveBytes : Prop :=
  ∀ blk blk' : Block, (∀ j : Fin 60, 4 ≤ j.val → j.val ≤ 58 → blk j = blk' j) → decodeProgram blk = decodeProgram blk'

/-- Every bit of the index byte and of the 27 logical bytes is in the record. Blocks that decode to the same
record have the same index byte and the same 27 logical data bytes: all 216 bits are assigned to a field. (R307,
R305, R508) -/
def Obligations.EveryLogicalBitIsKept : Prop :=
  ∀ blk blk' : Block, decodeProgram blk = decodeProgram blk' →
    blk 4 = blk' 4 ∧ ∀ k : Fin 27, logicalByte blk k = logicalByte blk' k

/-- The group letters are those whose mask bit is set, in the order A, B, C, D. For every mask the letter list is
A, B, C, D, in this order, with each letter kept exactly when its bit of the mask (0, 1, 2, 3) is set; so mask 0
gives the empty list, 0b0011 gives AB, 0b0110 gives BC, 0b1001 gives AD and 0b1111 gives ABCD. (R507, R505) -/
def Obligations.GroupLettersOfMask : Prop :=
  (∀ m : BitVec 4,
    groupLetters m =
      (([(.A, 0), (.B, 1), (.C, 2), (.D, 3)] : List (GroupLetter × Nat)).filter fun p => m.getLsbD p.2).map Prod.fst) ∧
    groupLetters 0b0000 = [] ∧ groupLetters 0b0011 = [.A, .B] ∧ groupLetters 0b0110 = [.B, .C] ∧
    groupLetters 0b1001 = [.A, .D] ∧ groupLetters 0b1111 = [.A, .B, .C, .D]

/-- RDREC's response word for a field is the field's value, zero-extended. For every record and each of the 76
fields, the word that RDREC answers has the value of that field. (R306, R313, R708) -/
def Obligations.RecordWordIsTheField : Prop :=
  ∀ r : ProgramRecord,
    (r.word .index).toNat = r.index.toNat ∧ (r.word .groupNum).toNat = r.groupNum.toNat ∧
      (r.word .groupMask).toNat = r.groupMask.toNat ∧ (r.word .number).toNat = r.number.toNat ∧
      (r.word .vcfRel).toNat = r.vcfRel.toNat ∧ (r.word .vcaRel).toNat = r.vcaRel.toNat ∧
      (r.word .vcfDcy).toNat = r.vcfDcy.toNat ∧ (r.word .vcaDcy).toNat = r.vcaDcy.toNat ∧
      (r.word .vcfAtk).toNat = r.vcfAtk.toNat ∧ (r.word .vcaAtk).toNat = r.vcaAtk.toNat ∧
      (r.word .vcfSus).toNat = r.vcfSus.toNat ∧ (r.word .vcaSus).toNat = r.vcaSus.toNat ∧
      (r.word .vcfMod).toNat = r.vcfMod.toNat ∧ (r.word .vcfRes).toNat = r.vcfRes.toNat ∧
      (r.word .oscPWM).toNat = r.oscPWM.toNat ∧ (r.word .lfoFreq).toNat = r.lfoFreq.toNat ∧
      (r.word .fmAmnt).toNat = r.fmAmnt.toNat ∧ (r.word .pwmAmnt).toNat = r.pwmAmnt.toNat ∧
      (r.word .portAmt).toNat = r.portAmt.toNat ∧ (r.word .osc2Detune).toNat = r.osc2Detune.toNat ∧
      (r.word .vcfFreq).toNat = r.vcfFreq.toNat ∧ (r.word .vco2Freq).toNat = r.vco2Freq.toNat ∧
      (r.word .vco1Freq).toNat = r.vco1Freq.toNat ∧ (r.word .lfoTrigPoint).toNat = r.lfoTrigPoint.toNat ∧
      (r.word .pedalSustn).toNat = r.pedalSustn.toNat ∧ (r.word .fmVibRaise).toNat = r.fmVibRaise.toNat ∧
      (r.word .pwmVibRaise).toNat = r.pwmVibRaise.toNat ∧ (r.word .fmVibDelay).toNat = r.fmVibDelay.toNat ∧
      (r.word .pwmVibDelay).toNat = r.pwmVibDelay.toNat ∧ (r.word .voiceDetune).toNat = r.voiceDetune.toNat ∧
      (r.word .bendAmount).toNat = r.bendAmount.toNat ∧ (r.word .unison).toNat = r.unison.toNat ∧
      (r.word .filterFM).toNat = r.filterFM.toNat ∧ (r.word .osc2FM).toNat = r.osc2FM.toNat ∧
      (r.word .osc2PWM).toNat = r.osc2PWM.toNat ∧ (r.word .osc1PWM).toNat = r.osc1PWM.toNat ∧
      (r.word .noise).toNat = r.noise.toNat ∧ (r.word .fourPole).toNat = r.fourPole.toNat ∧
      (r.word .osc2On).toNat = r.osc2On.toNat ∧ (r.word .osc2Half).toNat = r.osc2Half.toNat ∧
      (r.word .osc1On).toNat = r.osc1On.toNat ∧ (r.word .kbdTrack).toNat = r.kbdTrack.toNat ∧
      (r.word .pw1180).toNat = r.pw1180.toNat ∧ (r.word .vco1180).toNat = r.vco1180.toNat ∧
      (r.word .vcaMod).toNat = r.vcaMod.toNat ∧ (r.word .fEnv).toNat = r.fEnv.toNat ∧
      (r.word .sync).toNat = r.sync.toNat ∧ (r.word .osc1FM).toNat = r.osc1FM.toNat ∧
      (r.word .spare).toNat = r.spare.toNat ∧ (r.word .legato).toNat = r.legato.toNat ∧
      (r.word .portBend).toNat = r.portBend.toNat ∧ (r.word .lfoTrack).toNat = r.lfoTrack.toNat ∧
      (r.word .fmDlyInvert).toNat = r.fmDlyInvert.toNat ∧ (r.word .portQuant).toNat = r.portQuant.toNat ∧
      (r.word .portMatch).toNat = r.portMatch.toNat ∧ (r.word .flag180).toNat = r.flag180.toNat ∧
      (r.word .flag90).toNat = r.flag90.toNat ∧ (r.word .pwmDlyInvert).toNat = r.pwmDlyInvert.toNat ∧
      (r.word .pwmQuant).toNat = r.pwmQuant.toNat ∧ (r.word .expoPort).toNat = r.expoPort.toNat ∧
      (r.word .constPort).toNat = r.constPort.toNat ∧ (r.word .lfoRateDelay).toNat = r.lfoRateDelay.toNat ∧
      (r.word .fmQuant).toNat = r.fmQuant.toNat ∧ (r.word .osc2Wave).toNat = r.osc2Wave.toNat ∧
      (r.word .osc1Wave).toNat = r.osc1Wave.toNat ∧ (r.word .lfoWave).toNat = r.lfoWave.toNat ∧
      (r.word .trigLfoWave).toNat = r.trigLfoWave.toNat ∧ (r.word .volume).toNat = r.volume.toNat ∧
      (r.word .vco2PW).toNat = r.vco2PW.toNat ∧ (r.word .osc2WaveTri).toNat = r.osc2WaveTri.toNat ∧
      (r.word .osc2WaveSqr).toNat = r.osc2WaveSqr.toNat ∧ (r.word .osc1WaveTri).toNat = r.osc1WaveTri.toNat ∧
      (r.word .osc1WaveSqr).toNat = r.osc1WaveSqr.toNat ∧ (r.word .lfoWaveTri).toNat = r.lfoWaveTri.toNat ∧
      (r.word .lfoWaveSqr).toNat = r.lfoWaveSqr.toNat ∧ (r.word .lfoWaveSnH).toNat = r.lfoWaveSnH.toNat

/-- The status word holds STATE, FMT_CAUSE and FAULT at their places and zeros elsewhere. For every state: bits
1..0 are STATE (0 IDLE, 1 BUSY, 2 DONE, 3 FMT_ERR), bits 3..2 FMT_CAUSE, bits 7..4 zero, bits 12..8 FAULT, bits
31..13 zero; and the word is (FAULT << 8) | (FMT_CAUSE << 2) | STATE. (R312) -/
def Obligations.StatusWordLayout : Prop :=
  (∀ s : State,
    statusWord s = (s.fault.setWidth 32 <<< 8) ||| (s.fmtCause.setWidth 32 <<< 2) ||| s.phase.code.setWidth 32 ∧
      (statusWord s).extractLsb' 0 2 = s.phase.code ∧ (statusWord s).extractLsb' 2 2 = s.fmtCause ∧
      (statusWord s).extractLsb' 4 4 = 0 ∧ (statusWord s).extractLsb' 8 5 = s.fault ∧
      (statusWord s).extractLsb' 13 19 = 0) ∧
    Phase.idle.code = 0 ∧ Phase.busy.code = 1 ∧ Phase.done.code = 2 ∧ Phase.fmtErr.code = 3

/-- NOP responds 0 and changes nothing; with a reserved bit set it raises ILLEGAL_CMD. With no fault set, in
every STATE, exec of NOP answers the same state with response 0; and a word with OP 0 is NOP when bits 27..0 are
zero, else it sets FAULT bit 0 with response 0 and changes nothing else. (R701) -/
def Obligations.NopCommand : Prop :=
  ∀ s : State, s.fault = 0 →
    exec .nop s = .next { s with rsp := some 0 } ∧
      ∀ w : HostWord, cmdOp w = 0x0 →
        commandStep w s =
          if cmdLow w = 0 then .next { s with rsp := some 0 } else .next { s with fault := 0b00001, rsp := some 0 }

/-- WRBUF writes one byte of BUF, and faults while BUSY or beyond BUF_CAP. With no fault set, exec of WRBUF a,
d: while BUSY sets FAULT bit 1; else for a >= BUF_CAP sets FAULT bit 2; else stores d at address a and nothing
else but the response 0. Every other byte of BUF reads as before, and a reads as d. A word with OP 1 is WRBUF of
its A and D fields. (R702) -/
def Obligations.WrbufCommand : Prop :=
  ∀ (s : State) (a : Count) (d : Byte), s.fault = 0 →
    (exec (.wrbuf a d) s =
      if s.phase = .busy then .next { s with fault := 0b00010, rsp := some 0 }
      else if s.config.bufCap ≤ a.toNat then .next { s with fault := 0b00100, rsp := some 0 }
      else .next { s with buf := s.buf.write a.toNat d, rsp := some 0 }) ∧
    (∀ x : Nat, (s.buf.write a.toNat d).read x = if x = a.toNat then some d else s.buf.read x) ∧
    ∀ w : HostWord, cmdOp w = 0x1 → commandStep w s = exec (.wrbuf (cmdA w) (cmdD w)) s

/-- RDBUF responds with a written byte in every STATE, and faults beyond BUF_CAP or on an unwritten byte. With
no fault set, exec of RDBUF a: for a >= BUF_CAP sets FAULT bit 2; for a byte never written since reset sets
FAULT bit 4; else responds with the byte zero-extended. Nothing else changes. A word with OP 2 is RDBUF of its A
field when D is zero, else ILLEGAL_CMD. (R703) -/
def Obligations.RdbufCommand : Prop :=
  ∀ (s : State) (a : Count), s.fault = 0 →
    (exec (.rdbuf a) s =
      if s.config.bufCap ≤ a.toNat then .next { s with fault := 0b00100, rsp := some 0 }
      else
        match s.buf.read a.toNat with
        | none => .next { s with fault := 0b10000, rsp := some 0 }
        | some v => .next { s with rsp := some (v.setWidth 32) }) ∧
    ∀ w : HostWord, cmdOp w = 0x2 →
      commandStep w s =
        if cmdD w = 0 then exec (.rdbuf (cmdA w)) s else .next { s with fault := 0b00001, rsp := some 0 }

/-- WRLEN sets LEN to any length up to BUF_CAP, and faults while BUSY or beyond BUF_CAP. With no fault set, exec
of WRLEN n: while BUSY sets FAULT bit 1; else for n > BUF_CAP sets FAULT bit 2; else LEN is n (0 and lengths
that are no multiple of 60 too) and nothing else changes but the response 0. A word with OP 3 is WRLEN of its A
field when D is zero, else ILLEGAL_CMD. (R704) -/
def Obligations.WrlenCommand : Prop :=
  ∀ (s : State) (n : Count), s.fault = 0 →
    (exec (.wrlen n) s =
      if s.phase = .busy then .next { s with fault := 0b00010, rsp := some 0 }
      else if s.config.bufCap < n.toNat then .next { s with fault := 0b00100, rsp := some 0 }
      else .next { s with len := n, rsp := some 0 }) ∧
    ∀ w : HostWord, cmdOp w = 0x3 →
      commandStep w s =
        if cmdD w = 0 then exec (.wrlen (cmdA w)) s else .next { s with fault := 0b00001, rsp := some 0 }

/-- RDLEN and RDNREC respond with their registers in every STATE. With no fault set, exec of RDLEN responds with
LEN zero-extended and exec of RDNREC with NREC, and nothing else changes; a word with OP 4 or OP 7 is that
command when bits 27..0 are zero, else ILLEGAL_CMD. (R705, R707) -/
def Obligations.RegisterReadCommands : Prop :=
  ∀ s : State, s.fault = 0 →
    exec .rdlen s = .next { s with rsp := some (s.len.setWidth 32) } ∧
      exec .rdnrec s = .next { s with rsp := some (s.nrec.setWidth 32) } ∧
      (∀ w : HostWord, cmdOp w = 0x4 →
        commandStep w s =
          if cmdLow w = 0 then .next { s with rsp := some (s.len.setWidth 32) } else .next { s with fault := 0b00001, rsp := some 0 }) ∧
      ∀ w : HostWord, cmdOp w = 0x7 →
        commandStep w s =
          if cmdLow w = 0 then .next { s with rsp := some (s.nrec.setWidth 32) } else .next { s with fault := 0b00001, rsp := some 0 }

/-- RDSTAT responds with the status word in every state, under fault-stop too, and clears nothing. For every
state, with a fault set or not, exec of RDSTAT responds with (FAULT << 8) | (FMT_CAUSE << 2) | STATE and changes
nothing else; a word with OP 6 is RDSTAT when bits 27..0 are zero, else it sets FAULT bit 0 with response 0.
(R706) -/
def Obligations.RdstatCommand : Prop :=
  ∀ s : State,
    exec .rdstat s = .next { s with rsp := some (statusWord s) } ∧
      statusWord s = (s.fault.setWidth 32 <<< 8) ||| (s.fmtCause.setWidth 32 <<< 2) ||| s.phase.code.setWidth 32 ∧
      ∀ w : HostWord, cmdOp w = 0x6 →
        commandStep w s =
          if cmdLow w = 0 then .next { s with rsp := some (statusWord s) }
          else .next { s with fault := s.fault ||| 0b00001, rsp := some 0 }

/-- RDREC of each of the 76 fields responds with that field of a readable record. With no fault set, for every
field f of R313 (the 76 constructors rdrecIndex to rdrecLfoWaveSnH, which rdrecInstr k f lists) and every record
number k: exec sets FAULT bit 3 when STATE is not DONE or k >= NREC, else responds with the field of REC[k]
zero-extended and changes nothing else. A word with OP 8 is that command of its A field and of the field its D
field names, and ILLEGAL_CMD for D above 0x4B. (R708) -/
def Obligations.RdrecCommands : Prop :=
  ∀ (s : State) (k : Count), s.fault = 0 →
    (∀ f : Field,
      exec (rdrecInstr k f) s =
        if s.phase ≠ .done ∨ s.nrec.toNat ≤ k.toNat then .next { s with fault := 0b01000, rsp := some 0 }
        else .next { s with rsp := some ((s.record k.toNat).word f) }) ∧
    ∀ w : HostWord, cmdOp w = 0x8 →
      (0x4B < (cmdD w).toNat → commandStep w s = .next { s with fault := 0b00001, rsp := some 0 }) ∧
        ∀ f : Field, f.id = cmdD w → commandStep w s = exec (rdrecInstr (cmdA w) f) s

/-- The reserved field ids and operation codes raise ILLEGAL_CMD, in every STATE. With no fault set, exec of the
four rows of reserved field ids (rdrecReserved4C, rdrecReserved50, rdrecReserved60, rdrecReserved80) and of the two
rows of reserved operation codes (reservedOpAB, reservedOpCF) sets FAULT bit 0 with response 0 and changes nothing
else; so does every word with OP 0xA..0xF and every word with OP 8 and D in 0x4C..0xFF. (The clauses about exec
hold for every operand, also for one outside its row's range, which is no well-formed command and which no word
decodes to; that it takes ILLEGAL_CMD too is the model's choice: log 19, DESIGN CHOICE.) (R314, R710) -/
def Obligations.ReservedEncodings : Prop :=
  ∀ s : State, s.fault = 0 →
    (∀ (k : Count) (f : Byte),
      exec (.rdrecReserved4C k f) s = .next { s with fault := 0b00001, rsp := some 0 } ∧
        exec (.rdrecReserved50 k f) s = .next { s with fault := 0b00001, rsp := some 0 } ∧
        exec (.rdrecReserved60 k f) s = .next { s with fault := 0b00001, rsp := some 0 } ∧
        exec (.rdrecReserved80 k f) s = .next { s with fault := 0b00001, rsp := some 0 }) ∧
    (∀ (op : BitVec 4) (low : BitVec 28),
      exec (.reservedOpAB op low) s = .next { s with fault := 0b00001, rsp := some 0 } ∧
        exec (.reservedOpCF op low) s = .next { s with fault := 0b00001, rsp := some 0 }) ∧
    ∀ w : HostWord, (0xA ≤ (cmdOp w).toNat ∨ (cmdOp w = 0x8 ∧ 0x4C ≤ (cmdD w).toNat)) →
      commandStep w s = .next { s with fault := 0b00001, rsp := some 0 }

/-- COMBINE responds with the combiner's value in every STATE and uses no block state. With no fault set, exec
of COMBINE l, m responds with combine(l, m) zero-extended and changes nothing else; a word with OP 9 is COMBINE
with l its bits 7..0 and m its bits 15..8 when bits 27..16 are zero, else ILLEGAL_CMD. (R709) -/
def Obligations.CombineCommand : Prop :=
  ∀ s : State, s.fault = 0 →
    (∀ l m : Byte, exec (.combine l m) s = .next { s with rsp := some ((l ||| ((m &&& 0xF) <<< 4)).setWidth 32) }) ∧
      ∀ w : HostWord, cmdOp w = 0x9 →
        commandStep w s =
          if cmdHigh w = 0 then exec (.combine (cmdD w) (cmdM w)) s
          else .next { s with fault := 0b00001, rsp := some 0 }

/-- The format check computes both causes from LEN and the first four bytes. With BUF_CAP >= 4: for LEN < 4 the
check gives 0b11 without a read; for LEN >= 4 it raises UNINIT_READ when one of BUF[0..3] was never written, and
else gives bit 0 exactly when LEN is no multiple of 60 and bit 1 exactly when the four bytes are not F0 10 01
01. (R601) -/
def Obligations.FormatCheck : Prop :=
  ∀ s : State, 4 ≤ s.config.bufCap →
    (s.len.toNat < 4 → fmtCheck s = .ok 0b11) ∧
    (4 ≤ s.len.toNat → (∃ j, j < 4 ∧ s.buf.read j = none) → fmtCheck s = .error .uninitRead) ∧
    (4 ≤ s.len.toNat → ∀ b0 b1 b2 b3 : Byte,
      s.buf.read 0 = some b0 → s.buf.read 1 = some b1 → s.buf.read 2 = some b2 → s.buf.read 3 = some b3 →
      ∃ c : BitVec 2, fmtCheck s = .ok c ∧ c.getLsbD 0 = decide (s.len.toNat % 60 ≠ 0) ∧
        c.getLsbD 1 = decide (¬(b0 = 0xF0 ∧ b1 = 0x10 ∧ b2 = 0x01 ∧ b3 = 0x01)))

/-- START begins a decode or reports a FormatError, and faults while BUSY or on an unwritten magic byte. With no
fault set, exec of START: while BUSY sets FAULT bit 1; else takes the fault of the format check; else NREC is 0,
FMT_CAUSE is the cause, STATE is BUSY for cause 0 and FMT_ERR otherwise, the response is 0, and nothing else
changes (REC is not written). A word with OP 5 is START when bits 27..0 are zero, else ILLEGAL_CMD. (R602) -/
def Obligations.StartCommand : Prop :=
  ∀ s : State, s.fault = 0 →
    (exec .start s =
      if s.phase = .busy then .next { s with fault := 0b00010, rsp := some 0 }
      else
        match fmtCheck s with
        | .error b => .next { s with fault := b.mask, rsp := some 0 }
        | .ok c =>
          .next { s with nrec := 0, fmtCause := c, phase := if c = 0 then .busy else .fmtErr, rsp := some 0 }) ∧
    ∀ w : HostWord, cmdOp w = 0x5 →
      commandStep w s =
        if cmdLow w = 0 then exec .start s else .next { s with fault := 0b00001, rsp := some 0 }

/-- An enabled SEQ step decodes block NREC into REC[NREC], or faults on an unwritten byte; a disabled one does
nothing. In a state with consistent registers, STATE = BUSY and FAULT = 0: if the 55 bytes 60*NREC+4..60*NREC+58
are written, the turn of SEQ writes the decoded block to REC[NREC], adds 1 to NREC, sets STATE to DONE exactly when
NREC + 1 = LEN div 60, and changes nothing else; if one of them is unwritten it sets FAULT bit 4 and changes
nothing else. With STATE not BUSY or FAULT nonzero the turn changes nothing. (R603 gives SEQ no step where it is
not enabled; that a turn there leaves the state as it is, is the model's choice: log 1. The response field, none
after a SEQ step, is the model's: log 2.) (REC as a list of the written entries is log 5, DESIGN CHOICE; the bytes
of the block that are not read hold a free value: log 6, DESIGN CHOICE.) (R603) -/
def Obligations.SeqStepDecodesOneBlock : Prop :=
  (∀ s : State, RegistersConsistent s → s.phase = .busy → s.fault = 0 →
    ((∀ j, 4 ≤ j → j ≤ 58 → s.bufValid (60 * s.nrec.toNat + j) = true) →
      seqTurn s = .next { s with
        records := Store.write s.records s.nrec.toNat (decodeProgram (s.block s.nrec.toNat))
        nrec := s.nrec + 1
        phase := if s.nrec.toNat + 1 = s.len.toNat / 60 then .done else .busy
        rsp := none }) ∧
    ((∃ j, 4 ≤ j ∧ j ≤ 58 ∧ s.bufValid (60 * s.nrec.toNat + j) = false) →
      seqTurn s = .next { s with fault := 0b10000, rsp := none })) ∧
  (∀ s : State, s.phase ≠ .busy ∨ s.fault ≠ 0 → seqTurn s = .next s) ∧
  ∀ (recs : Store ProgramRecord) (k : Nat) (r : ProgramRecord) (x : Nat),
    Store.read (Store.write recs k r) x = if x = k then some r else Store.read recs x

/-- Under fault-stop only RDSTAT is served, SEQ is disabled, and only reset leaves it. In every state with FAULT
nonzero: SEQ's turn changes nothing; every command but RDSTAT, and every word whose OP is not 6, responds 0 and
changes nothing else; RDSTAT responds with the status word; a word with OP 6 and reserved bits set sets FAULT bit
0; and after a step FAULT is still nonzero unless the step is a reset, which clears it. (R809 gives SEQ no step
there; that its turn changes nothing, and the list of coming events of which the clauses about step speak, are the
model's choice: log 1.) (How a word with a must-be-zero bit set fares under fault-stop is log 8, and that a refused
command is a next state is log 12, both DEDUCED.) (R809) -/
def Obligations.FaultStopRefusesAllButRdstat : Prop :=
  ∀ s : State, s.fault ≠ 0 →
    seqTurn s = .next s ∧
    (∀ i : Instr, i ≠ .rdstat → exec i s = .next { s with rsp := some 0 }) ∧
    (∀ w : HostWord, cmdOp w ≠ 0x6 → commandStep w s = .next { s with rsp := some 0 }) ∧
    exec .rdstat s = .next { s with rsp := some (statusWord s) } ∧
    (∀ w : HostWord, cmdOp w = 0x6 → cmdLow w ≠ 0 →
      commandStep w s = .next { s with fault := s.fault ||| 0b00001, rsp := some 0 }) ∧
    (∀ t : State, step s = .next t → (t.fault = 0 ↔ s.pending.head? = some .reset)) ∧
    (s.pending.head? = some .reset → ∃ t : State, step s = .next t ∧ t.fault = 0)

/-- Taking a fault sets its bit, discards every other effect and answers 0. If a host command word changes FAULT,
its next state is the state before with the bit of one fault set in FAULT and response 0, and nothing else changed;
if a turn of SEQ changes FAULT, its next state is the state before with the bit of one fault set and no response.
(R808 gives a response word for a host command only: the response field, none after a SEQ step, is the model's: log
2, DESIGN CHOICE. A turn of SEQ as an event of its own, which changes nothing where SEQ is not enabled, is the
model's: log 1, DESIGN CHOICE.) (R808) -/
def Obligations.FaultEntryIsPrecise : Prop :=
  ∀ s t : State,
    (∀ w : HostWord, commandStep w s = .next t → t.fault ≠ s.fault →
      ∃ b : FaultBit, t = { s with fault := s.fault ||| b.mask, rsp := some 0 }) ∧
    (seqTurn s = .next t → t.fault ≠ s.fault →
      ∃ b : FaultBit, t = { s with fault := s.fault ||| b.mask, rsp := none })

/-- ILLEGAL_CMD is raised exactly by the reserved encodings, with no other effect. With no fault set, after a
command word FAULT is 0b00001 exactly when the word has OP 0xA..0xF, a nonzero must-be-zero field, or is RDREC
with D in 0x4C..0xFF; then the response is 0 and nothing else changes. (R803) -/
def Obligations.IllegalCmdExactly : Prop :=
  ∀ (s t : State) (w : HostWord), s.fault = 0 → commandStep w s = .next t →
    (t.fault = 0b00001 ↔
      0xA ≤ (cmdOp w).toNat ∨
        ((cmdOp w = 0x0 ∨ cmdOp w = 0x4 ∨ cmdOp w = 0x5 ∨ cmdOp w = 0x6 ∨ cmdOp w = 0x7) ∧ cmdLow w ≠ 0) ∨
        ((cmdOp w = 0x2 ∨ cmdOp w = 0x3) ∧ cmdD w ≠ 0) ∨ (cmdOp w = 0x9 ∧ cmdHigh w ≠ 0) ∨
        (cmdOp w = 0x8 ∧ 0x4C ≤ (cmdD w).toNat)) ∧
    (t.fault = 0b00001 → t = { s with fault := 0b00001, rsp := some 0 })

/-- BUSY_VIOLATION is raised exactly by WRBUF, WRLEN and START while BUSY. With no fault set, after a command
FAULT is 0b00010 exactly when STATE is BUSY and the command is WRBUF, WRLEN or START, whatever their operands.
(R804) -/
def Obligations.BusyViolationExactly : Prop :=
  ∀ (i : Instr) (s t : State), s.fault = 0 → exec i s = .next t →
    (t.fault = 0b00010 ↔
      s.phase = .busy ∧ ((∃ a d, i = .wrbuf a d) ∨ (∃ n, i = .wrlen n) ∨ i = .start))

/-- RANGE is raised exactly by an address or length beyond BUF_CAP, never by START or SEQ. With no fault set and
consistent registers, after a command FAULT is 0b00100 exactly for WRBUF a with a >= BUF_CAP or WRLEN n with n >
BUF_CAP while not BUSY, or RDBUF a with a >= BUF_CAP; and a turn of SEQ never leaves FAULT at 0b00100. (A turn of
SEQ as an event, which changes nothing where SEQ is not enabled, is the model's choice: log 1.) (R805, R810) -/
def Obligations.RangeExactly : Prop :=
  (∀ (i : Instr) (s t : State), RegistersConsistent s → s.fault = 0 → exec i s = .next t →
    (t.fault = 0b00100 ↔
      (s.phase ≠ .busy ∧ ∃ a d, i = .wrbuf a d ∧ s.config.bufCap ≤ a.toNat) ∨
        (∃ a, i = .rdbuf a ∧ s.config.bufCap ≤ a.toNat) ∨
        (s.phase ≠ .busy ∧ ∃ n, i = .wrlen n ∧ s.config.bufCap < n.toNat))) ∧
  ∀ s t : State, RegistersConsistent s → s.fault = 0 → seqTurn s = .next t → t.fault ≠ 0b00100

/-- REC_ACCESS is raised exactly by RDREC of a record that is not readable. With no fault set, after a command
FAULT is 0b01000 exactly when the command is RDREC of some field with STATE not DONE or k >= NREC. (R806) -/
def Obligations.RecAccessExactly : Prop :=
  ∀ (i : Instr) (s t : State), s.fault = 0 → exec i s = .next t →
    (t.fault = 0b01000 ↔ ∃ k f, i = rdrecInstr k f ∧ (s.phase ≠ .done ∨ s.nrec.toNat ≤ k.toNat))

/-- UNINIT_READ is raised exactly by a checked read of an unwritten byte in RDBUF, START or SEQ. With no fault set
and consistent registers: after a command FAULT is 0b10000 exactly for RDBUF of an unwritten byte below BUF_CAP, or
for START, not BUSY and with LEN >= 4, when one of bytes 0..3 is unwritten; after a turn of SEQ exactly when STATE
is BUSY and one of bytes 60*NREC+4..60*NREC+58 is unwritten. (A turn of SEQ as an event, which changes nothing
where SEQ is not enabled, is the model's choice: log 1.) (R807) -/
def Obligations.UninitReadExactly : Prop :=
  (∀ (i : Instr) (s t : State), RegistersConsistent s → s.fault = 0 → exec i s = .next t →
    (t.fault = 0b10000 ↔
      (∃ a, i = .rdbuf a ∧ a.toNat < s.config.bufCap ∧ s.bufValid a.toNat = false) ∨
        (i = .start ∧ s.phase ≠ .busy ∧ 4 ≤ s.len.toNat ∧ ∃ j, j < 4 ∧ s.bufValid j = false))) ∧
  ∀ s t : State, RegistersConsistent s → s.fault = 0 → seqTurn s = .next t →
    (t.fault = 0b10000 ↔
      s.phase = .busy ∧ ∃ j, 4 ≤ j ∧ j ≤ 58 ∧ s.bufValid (60 * s.nrec.toNat + j) = false)

/-- A step from a state without a fault raises at most one fault bit. From a state with FAULT = 0 every step leaves
FAULT at 0 or at the bit of exactly one fault; a word with any reserved encoding (OP 0xA..0xF, a nonzero
must-be-zero field, or RDREC with D in 0x4C..0xFF) raises ILLEGAL_CMD alone whatever else is wrong with it, and
WRBUF while BUSY raises BUSY_VIOLATION alone even beyond BUF_CAP. (Among the steps are the model's own, a turn of
SEQ that is not enabled and the idle step, which change nothing: logs 1 and 10.) (R810, R811, R310) -/
def Obligations.OneFaultBitAtATime : Prop :=
  (∀ s t : State, s.fault = 0 → step s = .next t → t.fault = 0 ∨ ∃ b : FaultBit, t.fault = b.mask) ∧
  (∀ (s t : State) (w : HostWord), s.fault = 0 →
    (0xA ≤ (cmdOp w).toNat ∨
      ((cmdOp w = 0x0 ∨ cmdOp w = 0x4 ∨ cmdOp w = 0x5 ∨ cmdOp w = 0x6 ∨ cmdOp w = 0x7) ∧ cmdLow w ≠ 0) ∨
      ((cmdOp w = 0x2 ∨ cmdOp w = 0x3) ∧ cmdD w ≠ 0) ∨ (cmdOp w = 0x9 ∧ cmdHigh w ≠ 0) ∨
      (cmdOp w = 0x8 ∧ 0x4C ≤ (cmdD w).toNat)) →
    commandStep w s = .next t → t.fault = FaultBit.illegalCmd.mask) ∧
  ∀ (s t : State) (a : Count) (d : Byte), s.fault = 0 → s.phase = .busy → s.config.bufCap ≤ a.toNat →
    exec (.wrbuf a d) s = .next t → t.fault = FaultBit.busyViolation.mask

/-- What each command may write: BUF by WRBUF alone, LEN by WRLEN alone, STATE, NREC and FMT_CAUSE by START alone,
REC by none. For every command and state with a next state: the configuration, REC and the coming events are
unchanged; BUF is unchanged unless the command is WRBUF, and then every byte but the one at its address reads as
before; LEN is unchanged unless it is WRLEN; STATE, NREC and FMT_CAUSE are unchanged unless it is START; no bit of
FAULT is cleared; and there is a response word. (The list of coming events is the model's: log 1, DESIGN CHOICE;
that the configuration stands in State is log 3, DESIGN CHOICE; the field that keeps the response word of R311 is
log 2, DESIGN CHOICE.) (R101, R102, R104, R105, R106, R107, R108, R110, R202, R311) -/
def Obligations.CommandsFrame : Prop :=
  ∀ (i : Instr) (s t : State), exec i s = .next t →
    t.config = s.config ∧ t.records = s.records ∧ t.pending = s.pending ∧
      ((∀ a d, i ≠ .wrbuf a d) → t.buf = s.buf) ∧
      (∀ a d, i = .wrbuf a d → ∀ x : Nat, x ≠ a.toNat → t.buf.read x = s.buf.read x) ∧
      ((∀ n, i ≠ .wrlen n) → t.len = s.len) ∧
      (i ≠ .start → t.phase = s.phase ∧ t.nrec = s.nrec ∧ t.fmtCause = s.fmtCause) ∧
      s.fault &&& t.fault = s.fault ∧ t.rsp.isSome = true

/-- A read command without a fault changes only the response, and repeats itself. For RDBUF, RDLEN, RDSTAT, RDNREC,
RDREC of every field and COMBINE: if the command does not change FAULT, its next state differs in the response
alone, and issuing it again gives the same next state. (The field that keeps the response word is the model's: log
2, DESIGN CHOICE.) (R207) -/
def Obligations.ReadCommandsAreIdempotent : Prop :=
  ∀ (i : Instr) (s t : State),
    ((∃ a, i = .rdbuf a) ∨ i = .rdlen ∨ i = .rdstat ∨ i = .rdnrec ∨ (∃ k f, i = rdrecInstr k f) ∨
      ∃ l m, i = .combine l m) →
    exec i s = .next t → t.fault = s.fault → t = { s with rsp := t.rsp } ∧ exec i t = .next t

/-- A step runs the command that the next pending word decodes to. When the next event is a command word that
decodes to i, step is exec of i at the state with that event taken off the list; the word stored by withFetchWord
is the next one; a word that does not decode is ILLEGAL_CMD, refused under fault-stop unless its OP is RDSTAT's.
(The list of coming events is the model's: logs 1 and 9.) (That a word with a must-be-zero bit set is no
constructor, and how it fares under fault-stop, is log 8, DEDUCED.) (R208, R211, R700) -/
def Obligations.StepRunsTheDecodedCommand : Prop :=
  (∀ (s : State) (w : HostWord) (rest : List Event) (i : Instr), s.pending = .command w :: rest → decode w = .ok i →
    step s = exec i { s with pending := rest }) ∧
  (∀ (s : State) (w : HostWord) (i : Instr), decode w = .ok i → step (s.withFetchWord 32 w.toNat) = exec i s) ∧
  ∀ (s : State) (w : HostWord) (rest : List Event) (op : BitVec 4), s.pending = .command w :: rest →
    decode w = .error (.mustBeZero op) →
    step s =
      if s.fault ≠ 0 ∧ op ≠ 0x6 then .next { s with pending := rest, rsp := some 0 }
      else .next { s with pending := rest, fault := s.fault ||| 0b00001, rsp := some 0 }

/-- A step with a SEQ turn or a reset next takes it; with nothing pending SEQ has its turn. When the next event
is a turn of SEQ, step is that turn with the event taken off the list; when it is a reset, step is the reset
state of the same configuration with the remaining events; when the list is empty, step is the turn of SEQ,
which changes nothing where SEQ is not enabled. (The list of coming events, and the idle step, are the model's:
logs 1, 10 and 13.) (R211, R603, R900, R909) -/
def Obligations.StepTakesSeqAndResetEvents : Prop :=
  (∀ (s : State) (rest : List Event), s.pending = .seq :: rest → step s = seqTurn { s with pending := rest }) ∧
  (∀ (s : State) (rest : List Event), s.pending = .reset :: rest →
    step s = .next { State.resetWith s.config with pending := rest }) ∧
  ∀ s : State, s.pending = [] → step s = seqTurn s

/-- Each step takes the first coming event and leaves the rest in order; no step changes the configuration.
Whenever step answers a next state, its list of coming events is the tail of the list before, and BUF_CAP, which is
fixed at build time, is as before. (The list is the model's: log 1. That BUF_CAP stands in State: log 3. That a
reset leaves the configuration and the events still to come: log 13.) (R211, R101, R904) -/
def Obligations.StepTakesEventsInOrder : Prop :=
  ∀ s t : State, step s = .next t → t.pending = s.pending.tail ∧ t.config = s.config

/-- BUF and LEN cannot change while BUSY, and readable records cannot change while DONE. For every step that is no
reset: from STATE = BUSY it leaves BUF and LEN as they were; from STATE = DONE it leaves REC as it was, and NREC
too where STATE is still DONE. (That the next event is a reset is read from the model's list of coming events, and
a turn of SEQ that is not enabled and the idle step change nothing: logs 1 and 10.) (R212, R102, R804) -/
def Obligations.DataStableDuringAndAfterADecode : Prop :=
  ∀ s t : State, step s = .next t → s.pending.head? ≠ some .reset →
    (s.phase = .busy → t.buf = s.buf ∧ t.len = s.len) ∧
      (s.phase = .done → t.records = s.records ∧ (t.phase = .done → t.nrec = s.nrec))

/-- STATE becomes DONE only in the SEQ step that writes the last record. If a step takes a state whose STATE is not
DONE to one whose STATE is DONE, then STATE was BUSY and FAULT 0, NREC + 1 = LEN div 60, and the step wrote
REC[NREC] and added 1 to NREC. (The steps of the list of coming events are log 1, DESIGN CHOICE, and REC as a list
of the written entries is log 5, DESIGN CHOICE.) (R604, R106) -/
def Obligations.DoneOnlyByTheLastSeqStep : Prop :=
  ∀ s t : State, step s = .next t → s.phase ≠ .done → t.phase = .done →
    s.phase = .busy ∧ s.fault = 0 ∧ s.nrec.toNat + 1 = s.len.toNat / 60 ∧ t.nrec = s.nrec + 1 ∧
      ∃ r : ProgramRecord, t.records = Store.write s.records s.nrec.toNat r

/-- Reset sets LEN, STATE, NREC, FMT_CAUSE and FAULT to 0 and makes every byte of BUF unwritten. A step whose next
event is a reset, from any state and under fault-stop or BUSY too, gives LEN 0, STATE IDLE, NREC 0, FMT_CAUSE 0,
FAULT 0, BUF_VALID all 0, no response word, and SEQ not enabled; State.reset has these values, with the reference
BUF_CAP 7680 (log 3) and no coming event (log 9), which are the model's choices. (A reset as an event of the list
of coming events is the model's: logs 1 and 13.) (BUF_VALID read from the list of BUF is log 4, DEDUCED.) (R900,
R901, R902) -/
def Obligations.ResetClearsTheBlock : Prop :=
  (∀ (s t : State) (rest : List Event), s.pending = .reset :: rest → step s = .next t →
    t.len = 0 ∧ t.phase = .idle ∧ t.nrec = 0 ∧ t.fmtCause = 0 ∧ t.fault = 0 ∧ (∀ a, t.bufValid a = false) ∧
      t.rsp = none ∧ seqEnabled t = false) ∧
  State.reset.len = 0 ∧ State.reset.phase = .idle ∧ State.reset.nrec = 0 ∧ State.reset.fmtCause = 0 ∧
    State.reset.fault = 0 ∧ (∀ a, State.reset.bufValid a = false) ∧ State.reset.rsp = none ∧
    State.reset.config.bufCap = 7680 ∧ State.reset.pending = []

/-- The reset state of every configuration meets the invariants. For every configuration, the reset state has
canonical stores, consistent registers, every record below NREC written, and FAULT of the permitted shape.
(Canonical stores, which hold BUF and REC as lists of rising addresses, empty at reset, are the model's own form:
log 4, DEDUCED, for BUF with BUF_VALID, and log 5, DESIGN CHOICE, for REC; the reset state of each configuration is
log 3, DESIGN CHOICE.) (R111, R212, R814, R900, R902) -/
def Obligations.ResetMeetsTheInvariants : Prop :=
  ∀ c : Config, StoresCanonical (State.resetWith c) ∧ RegistersConsistent (State.resetWith c) ∧
    RecordsWritten (State.resetWith c) ∧ FaultShape (State.resetWith c)

/-- Every step keeps BUF and REC in canonical form and inside their address spaces. From every state whose BUF and
REC list strictly rising addresses below BUF_CAP and REC_CAP, every step that answers a next state gives such a
state. (Among the steps are the model's own, a turn of SEQ that is not enabled and the idle step, which change
nothing: logs 1 and 10.) (That BUF and REC are lists of strictly rising addresses is the model's own form: log 4,
DEDUCED, for BUF with BUF_VALID, and log 5, DESIGN CHOICE, for REC.) (R102, R104, R200, R210) -/
def Obligations.StoresCanonicalKept : Prop :=
  ∀ s t : State, StoresCanonical s → step s = .next t → StoresCanonical t

/-- Every step keeps the invariants of LEN, STATE, NREC and FMT_CAUSE. From every state that meets R111 (a) to (e)
and R108 as one state shows them (LEN <= BUF_CAP; NREC = 0 in IDLE and FMT_ERR; in BUSY a LEN that is a positive
multiple of 60 with NREC < LEN div 60 and FMT_CAUSE 0; FMT_CAUSE nonzero in FMT_ERR and 0 elsewhere; 1 <= NREC <=
REC_CAP in DONE), every step that answers a next state gives such a state. (Among the steps are the model's own, a
turn of SEQ that is not enabled and the idle step, which change nothing: logs 1 and 10.) (R111, R108) -/
def Obligations.RegistersConsistentKept : Prop :=
  ∀ s t : State, RegistersConsistent s → step s = .next t → RegistersConsistent t

/-- Every step keeps every record below NREC written. From every state in which REC[0..NREC-1] have been written,
every step that answers a next state gives such a state, so that a readable record never holds an unspecified
value. (Among the steps are the model's own, a turn of SEQ that is not enabled and the idle step, which change
nothing: logs 1 and 10.) (That an entry has been written exactly when it is listed is the model's form of REC: log
5, DESIGN CHOICE.) (R212, R104, R604) -/
def Obligations.RecordsWrittenKept : Prop :=
  ∀ s t : State, RecordsWritten s → step s = .next t → RecordsWritten t

/-- Every step keeps FAULT at no bit, one bit, or one bit with ILLEGAL_CMD. From every state whose FAULT holds no
bit, the bit of one fault, or that bit together with ILLEGAL_CMD, every step that answers a next state gives such a
state. (Among the steps are the model's own, a turn of SEQ that is not enabled and the idle step, which change
nothing: logs 1 and 10.) (R814, R810) -/
def Obligations.FaultShapeKept : Prop :=
  ∀ s t : State, FaultShape s → step s = .next t → FaultShape t

/-- The model never stops from a state with consistent registers. From every state with consistent registers,
whatever events are to come, step answers a next state: every command word, turn of SEQ and reset is answered by
one. (That a turn of SEQ leaves the state as it is where SEQ is not enabled, and that a step does so with nothing
pending, are the model's choices: logs 1 and 10, DESIGN CHOICE; R603 gives SEQ no step there.) (The model's one
stop, which such a state rules out, is log 7, DESIGN CHOICE; the next state of a word with a must-be-zero bit set
is log 8, DEDUCED.) (R111, R603, R700, R800) -/
def Obligations.ConsistentStatesNeverStop : Prop :=
  ∀ s : State, RegistersConsistent s → ∃ t : State, step s = .next t

/-- From BUSY the decode reaches DONE after exactly LEN div 60 - NREC steps of SEQ with every block decoded. From a
state with consistent registers, STATE = BUSY, FAULT = 0, nothing pending and every byte that SEQ reads written:
after n steps, for n below LEN div 60 - NREC, STATE is still BUSY and NREC has grown by n; after LEN div 60 - NREC
steps STATE is DONE, NREC is LEN div 60, FAULT and FMT_CAUSE are 0, BUF and LEN are unchanged, each record from the
old NREC up is the decoded block of its position, and the earlier records are unchanged. (That SEQ takes its turn
at every step while nothing is pending is the model's order of steps: log 1.) (Records and block bytes are read by
the model's own reads, with free values where nothing was written: logs 5 and 6, DESIGN CHOICE.) (R604, R611, R605)
-/
def Obligations.BankDecodeFromBusy : Prop :=
  ∀ s : State, RegistersConsistent s → s.phase = .busy → s.fault = 0 → s.pending = [] → BlocksWritten s →
    (∀ n, n < s.len.toNat / 60 - s.nrec.toNat →
      ∃ t : State, core.run n s = .next t ∧ t.phase = .busy ∧ t.nrec.toNat = s.nrec.toNat + n) ∧
    ∃ t : State, core.run (s.len.toNat / 60 - s.nrec.toNat) s = .next t ∧ t.phase = .done ∧
      t.nrec.toNat = s.len.toNat / 60 ∧ t.fault = 0 ∧ t.fmtCause = 0 ∧ t.buf = s.buf ∧ t.len = s.len ∧
      (∀ i, s.nrec.toNat ≤ i → i < s.len.toNat / 60 → t.record i = decodeProgram (s.block i)) ∧
      ∀ i, i < s.nrec.toNat → t.record i = s.record i

/-- START on a valid bank produces exactly LEN div 60 records, record i the decoded block i. From a state that is
not BUSY, with FAULT = 0, LEN <= BUF_CAP, a positive LEN that is a multiple of 60, the magic in BUF[0..3], every
byte that SEQ reads written, and START the one coming event: after START and n < LEN div 60 further steps STATE is
BUSY and NREC is n; after START and LEN div 60 further steps STATE is DONE, NREC is LEN div 60, FAULT is 0, and
REC[i] is decode of BUF[60i..60i+59] for every i below LEN div 60. (The list of coming events, SEQ's turns while it
is empty, and START standing in it as the host's command are the model's: logs 1 and 9.) (Records and block bytes
are read by the model's own reads, with free values where nothing was written: logs 5 and 6, DESIGN CHOICE.) (R605)
-/
def Obligations.BankDecodeFromStart : Prop :=
  ∀ s : State, s.phase ≠ .busy → s.fault = 0 → s.len.toNat ≤ s.config.bufCap → BankHeaderGood s → BlocksWritten s →
    s.pending = [.command 0x50000000] →
    (∀ n, n < s.len.toNat / 60 →
      ∃ t : State, core.run (n + 1) s = .next t ∧ t.phase = .busy ∧ t.nrec.toNat = n) ∧
    ∃ t : State, core.run (s.len.toNat / 60 + 1) s = .next t ∧ t.phase = .done ∧
      t.nrec.toNat = s.len.toNat / 60 ∧ t.fault = 0 ∧
      ∀ i, i < s.len.toNat / 60 → t.record i = decodeProgram (s.block i)

/-- Decoding the same buffer a second time leaves the same records. From a state that is not BUSY, with FAULT = 0,
LEN <= BUF_CAP, a valid header, every byte that SEQ reads written and START the one coming event: the run of START
and LEN div 60 further steps ends, with STATE = DONE and FAULT = 0; issuing START once more there and running as
many steps again ends with the same STATE, FMT_CAUSE, NREC and REC[0..NREC-1]. (The list of coming events, SEQ's
turns while it is empty, and issuing a command by placing it there are the model's: logs 1 and 9.) (Records are
read by the model's own read of REC: log 5, DESIGN CHOICE.) (R608, R602) -/
def Obligations.SecondDecodeIsIdentical : Prop :=
  ∀ s : State, s.phase ≠ .busy → s.fault = 0 → s.len.toNat ≤ s.config.bufCap → BankHeaderGood s → BlocksWritten s →
    s.pending = [.command 0x50000000] →
    ∃ t u : State, core.run (s.len.toNat / 60 + 1) s = .next t ∧ RunEnded t ∧ t.phase = .done ∧
      core.run (s.len.toNat / 60 + 1) (t.issue 0x50000000) = .next u ∧ runResult u = runResult t

/-- A bank decode depends on nothing but LEN, the magic bytes and the bytes 4..58 of each block. Two states of one
configuration and LEN, not BUSY, without a fault, START the one coming event, whose BUF agree at 0..3 and at
60i+4..60i+58 for i < LEN div 60, and whose format check raises no fault: whatever else BUF, REC, NREC, STATE and
FMT_CAUSE held, after START and any number of further steps the results (STATE, FMT_CAUSE, NREC, REC[0..NREC-1])
and FAULT of the two runs are the same. (The list of coming events and SEQ's turns while it is empty are the
model's: log 1, and START placed there: log 9; the steps after the decode has ended are its idle steps: log 10.)
(Records are read by the model's own read of REC: log 5, DESIGN CHOICE.) (R608, R610, R307, R209) -/
def Obligations.BankDecodeReadsOnlyItsBytes : Prop :=
  ∀ s s' : State, s.config = s'.config → s.len = s'.len → s.len.toNat ≤ s.config.bufCap →
    s.phase ≠ .busy → s'.phase ≠ .busy → s.fault = 0 → s'.fault = 0 →
    s.pending = [.command 0x50000000] → s'.pending = [.command 0x50000000] →
    (∀ a, a < 4 → s.buf.read a = s'.buf.read a) →
    (∀ i j, i < s.len.toNat / 60 → 4 ≤ j → j ≤ 58 → s.buf.read (60 * i + j) = s'.buf.read (60 * i + j)) →
    (∃ c, fmtCheck s = .ok c) →
    ∀ (n : Nat) (t : State), core.run (n + 1) s = .next t →
      ∃ t' : State, core.run (n + 1) s' = .next t' ∧ runResult t' = runResult t ∧ t'.fault = t.fault

/-- A START that fails the format check leaves FMT_ERR and zero records until the host acts again, and a decode
that passed it cannot fail it later. From a state that is not BUSY, without a fault, START the one coming event and
a format check with cause c nonzero: after START and any number of further steps STATE is FMT_ERR, FMT_CAUSE is c,
NREC is 0, FAULT is 0 and REC is as before. And no step from BUSY leads to FMT_ERR. (A later command, such as a new
START, is another coming event, and is not among these steps: R609. The list of coming events is the model's: logs
1 and 9; the further steps are its idle steps: log 10.) (R607, R801) -/
def Obligations.NoPartialDecode : Prop :=
  (∀ (s : State) (c : BitVec 2), s.phase ≠ .busy → s.fault = 0 → s.pending = [.command 0x50000000] →
    fmtCheck s = .ok c → c ≠ 0 →
    ∀ n : Nat, ∃ t : State, core.run (n + 1) s = .next t ∧ t.phase = .fmtErr ∧ t.fmtCause = c ∧ t.nrec = 0 ∧
      t.fault = 0 ∧ t.records = s.records) ∧
  ∀ s t : State, s.phase = .busy → step s = .next t → t.phase ≠ .fmtErr

/-- LOADBUF expands to WRBUF of the bytes in turn, and WAITIDLE polls exactly while the block is BUSY without a
fault. For a start address and bytes that fit the address field, the LOADBUF expansion is the list of WRBUF
words at the addresses a, a+1, and so on; and WAITIDLE polls again after a status word exactly when STATE = BUSY
and FAULT = 0. (R316) -/
def Obligations.MacrosExpandAsWritten : Prop :=
  (∀ (a : Nat) (bytes : List Byte), a + bytes.length ≤ 2 ^ 20 →
    loadWords a bytes = .ok (bytes.mapIdx fun j b => .issue (encode (.wrbuf (BitVec.ofNat 20 (a + j)) b)))) ∧
  ∀ s : State, waitAgain (statusWord s) = true ↔ s.phase = .busy ∧ s.fault = 0
end

