-- ==== Sys2Proof/Laws/Decode.lean ====
section
/-!
SUPPORT. The fields of a built command word, the field ids as a bijection onto 0x00..0x4B, and RDREC's family of commands.
-/

namespace Sys2Proof

theorem commandWord_getLsbD (op : BitVec 4) (a : Count) (d : Byte) (i : Nat) :
    (commandWord op a d).getLsbD i =
      if i < 8 then d.getLsbD i else if i < 28 then a.getLsbD (i - 8) else op.getLsbD (i - 28) := by
  unfold commandWord
  rw [BitVec.getLsbD_append, BitVec.getLsbD_append]
  by_cases h8 : i < 8
  · simp [h8]
  · by_cases h28 : i < 28
    · have : i - 8 < 20 := by omega
      simp [h8, h28, this]
    · have : ¬ i - 8 < 20 := by omega
      simp [h8, h28, this, Nat.sub_sub]

@[simp] theorem cmdOp_commandWord (op : BitVec 4) (a : Count) (d : Byte) : cmdOp (commandWord op a d) = op := by
  refine BitVec.eq_of_getLsbD_eq fun i hi => ?_
  have h : 28 + i - 28 = i := by omega
  have h8 : ¬ 28 + i < 8 := by omega
  simp [cmdOp, commandWord_getLsbD, hi, h, h8]

@[simp] theorem cmdA_commandWord (op : BitVec 4) (a : Count) (d : Byte) : cmdA (commandWord op a d) = a := by
  refine BitVec.eq_of_getLsbD_eq fun i hi => ?_
  have h : 8 + i < 28 := by omega
  simp [cmdA, commandWord_getLsbD, hi, h]

@[simp] theorem cmdD_commandWord (op : BitVec 4) (a : Count) (d : Byte) : cmdD (commandWord op a d) = d := by
  refine BitVec.eq_of_getLsbD_eq fun i hi => ?_
  simp [cmdD, commandWord_getLsbD, hi]

theorem combineWord_getLsbD (l m : Byte) (i : Nat) :
    (combineWord l m).getLsbD i =
      if i < 8 then l.getLsbD i else if i < 16 then m.getLsbD (i - 8)
      else if i < 28 then false else (0x9#4).getLsbD (i - 28) := by
  unfold combineWord
  rw [BitVec.getLsbD_append, BitVec.getLsbD_append, BitVec.getLsbD_append]
  by_cases h8 : i < 8
  · simp [h8]
  · by_cases h16 : i < 16
    · have : i - 8 < 8 := by omega
      simp [h8, h16, this]
    · have h1 : ¬ i - 8 < 8 := by omega
      by_cases h28 : i < 28
      · have : i - 8 - 8 < 12 := by omega
        simp [h8, h16, h28, h1, this]
      · have h2 : ¬ i - 8 - 8 < 12 := by omega
        have h3 : i - 8 - 8 - 12 = i - 28 := by omega
        simp [h8, h16, h28, h1, h2, h3]

theorem reservedWord_getLsbD (op : BitVec 4) (low : BitVec 28) (i : Nat) :
    (reservedWord op low).getLsbD i = if i < 28 then low.getLsbD i else op.getLsbD (i - 28) := by
  unfold reservedWord
  rw [BitVec.getLsbD_append]

@[simp] theorem cmdOp_combineWord (l m : Byte) : cmdOp (combineWord l m) = 0x9 := by
  refine BitVec.eq_of_getLsbD_eq fun i hi => ?_
  have h8 : ¬ 28 + i < 8 := by omega
  have h16 : ¬ 28 + i < 16 := by omega
  simp [cmdOp, combineWord_getLsbD, hi, h8, h16]

@[simp] theorem cmdHigh_combineWord (l m : Byte) : cmdHigh (combineWord l m) = 0 := by
  refine BitVec.eq_of_getLsbD_eq fun i hi => ?_
  have h8 : ¬ 16 + i < 8 := by omega
  have h28 : 16 + i < 28 := by omega
  simp [cmdHigh, combineWord_getLsbD, h8, h28]

@[simp] theorem cmdM_combineWord (l m : Byte) : cmdM (combineWord l m) = m := by
  refine BitVec.eq_of_getLsbD_eq fun i hi => ?_
  have h16 : 8 + i < 16 := by omega
  simp [cmdM, combineWord_getLsbD, hi, h16]

@[simp] theorem cmdD_combineWord (l m : Byte) : cmdD (combineWord l m) = l := by
  refine BitVec.eq_of_getLsbD_eq fun i hi => ?_
  simp [cmdD, combineWord_getLsbD, hi]

@[simp] theorem cmdOp_reservedWord (op : BitVec 4) (low : BitVec 28) : cmdOp (reservedWord op low) = op := by
  refine BitVec.eq_of_getLsbD_eq fun i hi => ?_
  simp [cmdOp, reservedWord_getLsbD, hi]

@[simp] theorem cmdLow_reservedWord (op : BitVec 4) (low : BitVec 28) : cmdLow (reservedWord op low) = low := by
  refine BitVec.eq_of_getLsbD_eq fun i hi => ?_
  simp [cmdLow, reservedWord_getLsbD, hi]

/-- A word is made of its operation code, A and D. -/
theorem commandWord_fields (w : HostWord) : commandWord (cmdOp w) (cmdA w) (cmdD w) = w := by
  refine BitVec.eq_of_getLsbD_eq fun i hi => ?_
  rw [commandWord_getLsbD]
  split
  · rename_i h
    simp [cmdD, h]
  · split
    · have h1 : i - 8 < 20 := by omega
      have h2 : 8 + (i - 8) = i := by omega
      simp [cmdA, h1, h2]
    · have h1 : i - 28 < 4 := by omega
      have h2 : 28 + (i - 28) = i := by omega
      simp [cmdOp, h1, h2]

/-- A word is made of its operation code and its other bits. -/
theorem reservedWord_fields (w : HostWord) : reservedWord (cmdOp w) (cmdLow w) = w := by
  refine BitVec.eq_of_getLsbD_eq fun i hi => ?_
  rw [reservedWord_getLsbD]
  split
  · rename_i h
    simp [cmdLow, h]
  · have h1 : i - 28 < 4 := by omega
    have h2 : 28 + (i - 28) = i := by omega
    simp [cmdOp, h1, h2]

theorem ifZero_eq_ok {b : Bool} {op : BitVec 4} {i j : Instr} : ifZero b op i = .ok j ↔ b = true ∧ j = i := by
  cases b <;> simp [ifZero, eq_comm]

theorem ifZero_eq_error {b : Bool} {op : BitVec 4} {i : Instr} {e : DecodeError} :
    ifZero b op i = .error e ↔ b = false ∧ e = .mustBeZero op := by
  cases b <;> simp [ifZero, eq_comm]

/-- The field table and the field ids agree. -/
theorem Field.ofId_id (f : Field) : Field.ofId f.id = some f := by cases f <;> rfl

theorem Field.id_of_ofId : ∀ d : Byte, ∀ f ∈ Field.ofId d, f.id = d := by decide

/-- R314: exactly the ids above 0x4B are reserved. -/
theorem Field.ofId_eq_none : ∀ d : Byte, Field.ofId d = none ↔ 0x4B < d.toNat := by decide

/-! ## What a word decodes to, by its operation code -/

theorem decode_of_op_nop {w : HostWord} (h : cmdOp w = 0x0) : decode w = ifZero (cmdLow w == 0) 0x0 .nop := by
  simp [decode, h]

theorem decode_of_op_wrbuf {w : HostWord} (h : cmdOp w = 0x1) : decode w = .ok (.wrbuf (cmdA w) (cmdD w)) := by
  simp [decode, h]

theorem decode_of_op_rdbuf {w : HostWord} (h : cmdOp w = 0x2) : decode w = ifZero (cmdD w == 0) 0x2 (.rdbuf (cmdA w)) := by
  simp [decode, h]

theorem decode_of_op_wrlen {w : HostWord} (h : cmdOp w = 0x3) : decode w = ifZero (cmdD w == 0) 0x3 (.wrlen (cmdA w)) := by
  simp [decode, h]

theorem decode_of_op_rdlen {w : HostWord} (h : cmdOp w = 0x4) : decode w = ifZero (cmdLow w == 0) 0x4 .rdlen := by
  simp [decode, h]

theorem decode_of_op_start {w : HostWord} (h : cmdOp w = 0x5) : decode w = ifZero (cmdLow w == 0) 0x5 .start := by
  simp [decode, h]

theorem decode_of_op_rdstat {w : HostWord} (h : cmdOp w = 0x6) : decode w = ifZero (cmdLow w == 0) 0x6 .rdstat := by
  simp [decode, h]

theorem decode_of_op_rdnrec {w : HostWord} (h : cmdOp w = 0x7) : decode w = ifZero (cmdLow w == 0) 0x7 .rdnrec := by
  simp [decode, h]

theorem decode_of_op_rdrec {w : HostWord} (h : cmdOp w = 0x8) {f : Field} (hf : Field.ofId (cmdD w) = some f) :
    decode w = .ok (rdrecInstr (cmdA w) f) := by
  simp [decode, h, hf]

theorem decode_of_op_rdrec_reserved {w : HostWord} (h : cmdOp w = 0x8) (hf : Field.ofId (cmdD w) = none) :
    decode w = .ok (reservedFieldInstr (cmdA w) (cmdD w)) := by
  simp [decode, h, hf]

theorem decode_of_op_combine {w : HostWord} (h : cmdOp w = 0x9) :
    decode w = ifZero (cmdHigh w == 0) 0x9 (.combine (cmdD w) (cmdM w)) := by
  simp [decode, h]

theorem decode_of_op_AB {w : HostWord} (h : cmdOp w = 0xA ∨ cmdOp w = 0xB) :
    decode w = .ok (.reservedOpAB (cmdOp w) (cmdLow w)) := by
  rcases h with h | h <;> simp [decode, h]

theorem decode_of_op_CF {w : HostWord} (h : 0xC ≤ (cmdOp w).toNat) :
    decode w = .ok (.reservedOpCF (cmdOp w) (cmdLow w)) := by
  unfold decode
  split <;> first | omega | rfl

/-- The operation codes, one by one; the last case is 0xC to 0xF. -/
theorem cmdOp_cases (w : HostWord) : cmdOp w = 0x0 ∨ cmdOp w = 0x1 ∨ cmdOp w = 0x2 ∨ cmdOp w = 0x3 ∨ cmdOp w = 0x4 ∨
    cmdOp w = 0x5 ∨ cmdOp w = 0x6 ∨ cmdOp w = 0x7 ∨ cmdOp w = 0x8 ∨ cmdOp w = 0x9 ∨
    (cmdOp w = 0xA ∨ cmdOp w = 0xB) ∨ 0xC ≤ (cmdOp w).toNat := by
  have all : ∀ op : BitVec 4, op = 0x0 ∨ op = 0x1 ∨ op = 0x2 ∨ op = 0x3 ∨ op = 0x4 ∨ op = 0x5 ∨ op = 0x6 ∨
      op = 0x7 ∨ op = 0x8 ∨ op = 0x9 ∨ (op = 0xA ∨ op = 0xB) ∨ 0xC ≤ op.toNat := by decide
  exact all (cmdOp w)

theorem encode_rdrecInstr (k : Count) (f : Field) : encode (rdrecInstr k f) = commandWord 0x8 k f.id := by
  cases f <;> rfl

theorem wellFormed_rdrecInstr (k : Count) (f : Field) : (rdrecInstr k f).wellFormed = true := by cases f <;> rfl

/-- Every command is one of the plain ones, an RDREC of some field, or a reserved one. -/
theorem instr_cases (i : Instr) :
    i = .nop ∨ (∃ a d, i = .wrbuf a d) ∨ (∃ a, i = .rdbuf a) ∨ (∃ n, i = .wrlen n) ∨ i = .rdlen ∨ i = .start ∨
      i = .rdstat ∨ i = .rdnrec ∨ (∃ l m, i = .combine l m) ∨ (∃ k f, i = rdrecInstr k f) ∨
      ((∃ k f, i = .rdrecReserved4C k f) ∨ (∃ k f, i = .rdrecReserved50 k f) ∨ (∃ k f, i = .rdrecReserved60 k f) ∨
        ∃ k f, i = .rdrecReserved80 k f) ∨
      (∃ op low, i = .reservedOpAB op low) ∨ ∃ op low, i = .reservedOpCF op low := by
  have rdrec : ∀ (j : Instr) (k : Count) (f : Field), j = rdrecInstr k f →
      j = .nop ∨ (∃ a d, j = .wrbuf a d) ∨ (∃ a, j = .rdbuf a) ∨ (∃ n, j = .wrlen n) ∨ j = .rdlen ∨ j = .start ∨
        j = .rdstat ∨ j = .rdnrec ∨ (∃ l m, j = .combine l m) ∨ (∃ k f, j = rdrecInstr k f) ∨
        ((∃ k f, j = .rdrecReserved4C k f) ∨ (∃ k f, j = .rdrecReserved50 k f) ∨
          (∃ k f, j = .rdrecReserved60 k f) ∨ ∃ k f, j = .rdrecReserved80 k f) ∨
        (∃ op low, j = .reservedOpAB op low) ∨ ∃ op low, j = .reservedOpCF op low := by
    intro j k f h
    iterate 9 apply Or.inr
    exact .inl ⟨k, f, h⟩
  cases i
  case nop => simp
  case wrbuf a d => simp
  case rdbuf a => simp
  case wrlen n => simp
  case rdlen => simp
  case start => simp
  case rdstat => simp
  case rdnrec => simp
  case combine l m => simp
  case rdrecReserved4C k f => simp
  case rdrecReserved50 k f => simp
  case rdrecReserved60 k f => simp
  case rdrecReserved80 k f => simp
  case reservedOpAB op low => simp
  case reservedOpCF op low => simp
  case rdrecIndex k => exact rdrec _ k .index rfl
  case rdrecGroupNum k => exact rdrec _ k .groupNum rfl
  case rdrecGroupMask k => exact rdrec _ k .groupMask rfl
  case rdrecNumber k => exact rdrec _ k .number rfl
  case rdrecVcfRel k => exact rdrec _ k .vcfRel rfl
  case rdrecVcaRel k => exact rdrec _ k .vcaRel rfl
  case rdrecVcfDcy k => exact rdrec _ k .vcfDcy rfl
  case rdrecVcaDcy k => exact rdrec _ k .vcaDcy rfl
  case rdrecVcfAtk k => exact rdrec _ k .vcfAtk rfl
  case rdrecVcaAtk k => exact rdrec _ k .vcaAtk rfl
  case rdrecVcfSus k => exact rdrec _ k .vcfSus rfl
  case rdrecVcaSus k => exact rdrec _ k .vcaSus rfl
  case rdrecVcfMod k => exact rdrec _ k .vcfMod rfl
  case rdrecVcfRes k => exact rdrec _ k .vcfRes rfl
  case rdrecOscPWM k => exact rdrec _ k .oscPWM rfl
  case rdrecLfoFreq k => exact rdrec _ k .lfoFreq rfl
  case rdrecFmAmnt k => exact rdrec _ k .fmAmnt rfl
  case rdrecPwmAmnt k => exact rdrec _ k .pwmAmnt rfl
  case rdrecPortAmt k => exact rdrec _ k .portAmt rfl
  case rdrecOsc2Detune k => exact rdrec _ k .osc2Detune rfl
  case rdrecVcfFreq k => exact rdrec _ k .vcfFreq rfl
  case rdrecVco2Freq k => exact rdrec _ k .vco2Freq rfl
  case rdrecVco1Freq k => exact rdrec _ k .vco1Freq rfl
  case rdrecLfoTrigPoint k => exact rdrec _ k .lfoTrigPoint rfl
  case rdrecPedalSustn k => exact rdrec _ k .pedalSustn rfl
  case rdrecFmVibRaise k => exact rdrec _ k .fmVibRaise rfl
  case rdrecPwmVibRaise k => exact rdrec _ k .pwmVibRaise rfl
  case rdrecFmVibDelay k => exact rdrec _ k .fmVibDelay rfl
  case rdrecPwmVibDelay k => exact rdrec _ k .pwmVibDelay rfl
  case rdrecVoiceDetune k => exact rdrec _ k .voiceDetune rfl
  case rdrecBendAmount k => exact rdrec _ k .bendAmount rfl
  case rdrecUnison k => exact rdrec _ k .unison rfl
  case rdrecFilterFM k => exact rdrec _ k .filterFM rfl
  case rdrecOsc2FM k => exact rdrec _ k .osc2FM rfl
  case rdrecOsc2PWM k => exact rdrec _ k .osc2PWM rfl
  case rdrecOsc1PWM k => exact rdrec _ k .osc1PWM rfl
  case rdrecNoise k => exact rdrec _ k .noise rfl
  case rdrecFourPole k => exact rdrec _ k .fourPole rfl
  case rdrecOsc2On k => exact rdrec _ k .osc2On rfl
  case rdrecOsc2Half k => exact rdrec _ k .osc2Half rfl
  case rdrecOsc1On k => exact rdrec _ k .osc1On rfl
  case rdrecKbdTrack k => exact rdrec _ k .kbdTrack rfl
  case rdrecPw1180 k => exact rdrec _ k .pw1180 rfl
  case rdrecVco1180 k => exact rdrec _ k .vco1180 rfl
  case rdrecVcaMod k => exact rdrec _ k .vcaMod rfl
  case rdrecFEnv k => exact rdrec _ k .fEnv rfl
  case rdrecSync k => exact rdrec _ k .sync rfl
  case rdrecOsc1FM k => exact rdrec _ k .osc1FM rfl
  case rdrecSpare k => exact rdrec _ k .spare rfl
  case rdrecLegato k => exact rdrec _ k .legato rfl
  case rdrecPortBend k => exact rdrec _ k .portBend rfl
  case rdrecLfoTrack k => exact rdrec _ k .lfoTrack rfl
  case rdrecFmDlyInvert k => exact rdrec _ k .fmDlyInvert rfl
  case rdrecPortQuant k => exact rdrec _ k .portQuant rfl
  case rdrecPortMatch k => exact rdrec _ k .portMatch rfl
  case rdrecFlag180 k => exact rdrec _ k .flag180 rfl
  case rdrecFlag90 k => exact rdrec _ k .flag90 rfl
  case rdrecPwmDlyInvert k => exact rdrec _ k .pwmDlyInvert rfl
  case rdrecPwmQuant k => exact rdrec _ k .pwmQuant rfl
  case rdrecExpoPort k => exact rdrec _ k .expoPort rfl
  case rdrecConstPort k => exact rdrec _ k .constPort rfl
  case rdrecLfoRateDelay k => exact rdrec _ k .lfoRateDelay rfl
  case rdrecFmQuant k => exact rdrec _ k .fmQuant rfl
  case rdrecOsc2Wave k => exact rdrec _ k .osc2Wave rfl
  case rdrecOsc1Wave k => exact rdrec _ k .osc1Wave rfl
  case rdrecLfoWave k => exact rdrec _ k .lfoWave rfl
  case rdrecTrigLfoWave k => exact rdrec _ k .trigLfoWave rfl
  case rdrecVolume k => exact rdrec _ k .volume rfl
  case rdrecVco2PW k => exact rdrec _ k .vco2PW rfl
  case rdrecOsc2WaveTri k => exact rdrec _ k .osc2WaveTri rfl
  case rdrecOsc2WaveSqr k => exact rdrec _ k .osc2WaveSqr rfl
  case rdrecOsc1WaveTri k => exact rdrec _ k .osc1WaveTri rfl
  case rdrecOsc1WaveSqr k => exact rdrec _ k .osc1WaveSqr rfl
  case rdrecLfoWaveTri k => exact rdrec _ k .lfoWaveTri rfl
  case rdrecLfoWaveSqr k => exact rdrec _ k .lfoWaveSqr rfl
  case rdrecLfoWaveSnH k => exact rdrec _ k .lfoWaveSnH rfl

namespace Machine

/-- Every RDREC command of the opcode table reads its field (R708). -/
theorem exec_rdrecInstr (k : Count) (f : Field) (s : State) : exec (rdrecInstr k f) s = readRecord f k s := by
  cases f <;> rfl

end Machine

end Sys2Proof
end

