-- ==== Sys2Proof/Laws/State.lean ====
section
/-!
SUPPORT. What each state update does to each field: one lemma for each, true by definition.
-/

namespace Sys2Proof.Machine

@[simp] theorem State.respond_config (s : State) (w : HostWord) :
    (s.respond w).config = s.config := rfl
@[simp] theorem State.respond_buf (s : State) (w : HostWord) :
    (s.respond w).buf = s.buf := rfl
@[simp] theorem State.respond_len (s : State) (w : HostWord) :
    (s.respond w).len = s.len := rfl
@[simp] theorem State.respond_phase (s : State) (w : HostWord) :
    (s.respond w).phase = s.phase := rfl
@[simp] theorem State.respond_nrec (s : State) (w : HostWord) :
    (s.respond w).nrec = s.nrec := rfl
@[simp] theorem State.respond_fmtCause (s : State) (w : HostWord) :
    (s.respond w).fmtCause = s.fmtCause := rfl
@[simp] theorem State.respond_fault (s : State) (w : HostWord) :
    (s.respond w).fault = s.fault := rfl
@[simp] theorem State.respond_records (s : State) (w : HostWord) :
    (s.respond w).records = s.records := rfl
@[simp] theorem State.respond_rsp (s : State) (w : HostWord) :
    (s.respond w).rsp = some w := rfl
@[simp] theorem State.respond_pending (s : State) (w : HostWord) :
    (s.respond w).pending = s.pending := rfl

@[simp] theorem State.setBuf_config (s : State) (m : Memory) :
    (s.setBuf m).config = s.config := rfl
@[simp] theorem State.setBuf_buf (s : State) (m : Memory) :
    (s.setBuf m).buf = m := rfl
@[simp] theorem State.setBuf_len (s : State) (m : Memory) :
    (s.setBuf m).len = s.len := rfl
@[simp] theorem State.setBuf_phase (s : State) (m : Memory) :
    (s.setBuf m).phase = s.phase := rfl
@[simp] theorem State.setBuf_nrec (s : State) (m : Memory) :
    (s.setBuf m).nrec = s.nrec := rfl
@[simp] theorem State.setBuf_fmtCause (s : State) (m : Memory) :
    (s.setBuf m).fmtCause = s.fmtCause := rfl
@[simp] theorem State.setBuf_fault (s : State) (m : Memory) :
    (s.setBuf m).fault = s.fault := rfl
@[simp] theorem State.setBuf_records (s : State) (m : Memory) :
    (s.setBuf m).records = s.records := rfl
@[simp] theorem State.setBuf_rsp (s : State) (m : Memory) :
    (s.setBuf m).rsp = s.rsp := rfl
@[simp] theorem State.setBuf_pending (s : State) (m : Memory) :
    (s.setBuf m).pending = s.pending := rfl

@[simp] theorem State.setLen_config (s : State) (n : Count) :
    (s.setLen n).config = s.config := rfl
@[simp] theorem State.setLen_buf (s : State) (n : Count) :
    (s.setLen n).buf = s.buf := rfl
@[simp] theorem State.setLen_len (s : State) (n : Count) :
    (s.setLen n).len = n := rfl
@[simp] theorem State.setLen_phase (s : State) (n : Count) :
    (s.setLen n).phase = s.phase := rfl
@[simp] theorem State.setLen_nrec (s : State) (n : Count) :
    (s.setLen n).nrec = s.nrec := rfl
@[simp] theorem State.setLen_fmtCause (s : State) (n : Count) :
    (s.setLen n).fmtCause = s.fmtCause := rfl
@[simp] theorem State.setLen_fault (s : State) (n : Count) :
    (s.setLen n).fault = s.fault := rfl
@[simp] theorem State.setLen_records (s : State) (n : Count) :
    (s.setLen n).records = s.records := rfl
@[simp] theorem State.setLen_rsp (s : State) (n : Count) :
    (s.setLen n).rsp = s.rsp := rfl
@[simp] theorem State.setLen_pending (s : State) (n : Count) :
    (s.setLen n).pending = s.pending := rfl

@[simp] theorem State.setPending_config (s : State) (l : List Event) :
    (s.setPending l).config = s.config := rfl
@[simp] theorem State.setPending_buf (s : State) (l : List Event) :
    (s.setPending l).buf = s.buf := rfl
@[simp] theorem State.setPending_len (s : State) (l : List Event) :
    (s.setPending l).len = s.len := rfl
@[simp] theorem State.setPending_phase (s : State) (l : List Event) :
    (s.setPending l).phase = s.phase := rfl
@[simp] theorem State.setPending_nrec (s : State) (l : List Event) :
    (s.setPending l).nrec = s.nrec := rfl
@[simp] theorem State.setPending_fmtCause (s : State) (l : List Event) :
    (s.setPending l).fmtCause = s.fmtCause := rfl
@[simp] theorem State.setPending_fault (s : State) (l : List Event) :
    (s.setPending l).fault = s.fault := rfl
@[simp] theorem State.setPending_records (s : State) (l : List Event) :
    (s.setPending l).records = s.records := rfl
@[simp] theorem State.setPending_rsp (s : State) (l : List Event) :
    (s.setPending l).rsp = s.rsp := rfl
@[simp] theorem State.setPending_pending (s : State) (l : List Event) :
    (s.setPending l).pending = l := rfl

@[simp] theorem State.beginDecode_config (s : State) (c : BitVec 2) :
    (s.beginDecode c).config = s.config := rfl
@[simp] theorem State.beginDecode_buf (s : State) (c : BitVec 2) :
    (s.beginDecode c).buf = s.buf := rfl
@[simp] theorem State.beginDecode_len (s : State) (c : BitVec 2) :
    (s.beginDecode c).len = s.len := rfl
@[simp] theorem State.beginDecode_phase (s : State) (c : BitVec 2) :
    (s.beginDecode c).phase = if c = 0 then .busy else .fmtErr := rfl
@[simp] theorem State.beginDecode_nrec (s : State) (c : BitVec 2) :
    (s.beginDecode c).nrec = 0 := rfl
@[simp] theorem State.beginDecode_fmtCause (s : State) (c : BitVec 2) :
    (s.beginDecode c).fmtCause = c := rfl
@[simp] theorem State.beginDecode_fault (s : State) (c : BitVec 2) :
    (s.beginDecode c).fault = s.fault := rfl
@[simp] theorem State.beginDecode_records (s : State) (c : BitVec 2) :
    (s.beginDecode c).records = s.records := rfl
@[simp] theorem State.beginDecode_rsp (s : State) (c : BitVec 2) :
    (s.beginDecode c).rsp = s.rsp := rfl
@[simp] theorem State.beginDecode_pending (s : State) (c : BitVec 2) :
    (s.beginDecode c).pending = s.pending := rfl

@[simp] theorem State.storeRecord_config (s : State) (r : ProgramRecord) :
    (s.storeRecord r).config = s.config := rfl
@[simp] theorem State.storeRecord_buf (s : State) (r : ProgramRecord) :
    (s.storeRecord r).buf = s.buf := rfl
@[simp] theorem State.storeRecord_len (s : State) (r : ProgramRecord) :
    (s.storeRecord r).len = s.len := rfl
@[simp] theorem State.storeRecord_phase (s : State) (r : ProgramRecord) :
    (s.storeRecord r).phase = if s.nrec.toNat + 1 = s.len.toNat / 60 then .done else s.phase := rfl
@[simp] theorem State.storeRecord_nrec (s : State) (r : ProgramRecord) :
    (s.storeRecord r).nrec = s.nrec + 1 := rfl
@[simp] theorem State.storeRecord_fmtCause (s : State) (r : ProgramRecord) :
    (s.storeRecord r).fmtCause = s.fmtCause := rfl
@[simp] theorem State.storeRecord_fault (s : State) (r : ProgramRecord) :
    (s.storeRecord r).fault = s.fault := rfl
@[simp] theorem State.storeRecord_records (s : State) (r : ProgramRecord) :
    (s.storeRecord r).records = Store.write s.records s.nrec.toNat r := rfl
@[simp] theorem State.storeRecord_rsp (s : State) (r : ProgramRecord) :
    (s.storeRecord r).rsp = none := rfl
@[simp] theorem State.storeRecord_pending (s : State) (r : ProgramRecord) :
    (s.storeRecord r).pending = s.pending := rfl

@[simp] theorem State.raiseFault_config (s : State) (b : FaultBit) :
    (s.raiseFault b).config = s.config := rfl
@[simp] theorem State.raiseFault_buf (s : State) (b : FaultBit) :
    (s.raiseFault b).buf = s.buf := rfl
@[simp] theorem State.raiseFault_len (s : State) (b : FaultBit) :
    (s.raiseFault b).len = s.len := rfl
@[simp] theorem State.raiseFault_phase (s : State) (b : FaultBit) :
    (s.raiseFault b).phase = s.phase := rfl
@[simp] theorem State.raiseFault_nrec (s : State) (b : FaultBit) :
    (s.raiseFault b).nrec = s.nrec := rfl
@[simp] theorem State.raiseFault_fmtCause (s : State) (b : FaultBit) :
    (s.raiseFault b).fmtCause = s.fmtCause := rfl
@[simp] theorem State.raiseFault_fault (s : State) (b : FaultBit) :
    (s.raiseFault b).fault = s.fault ||| b.mask := rfl
@[simp] theorem State.raiseFault_records (s : State) (b : FaultBit) :
    (s.raiseFault b).records = s.records := rfl
@[simp] theorem State.raiseFault_rsp (s : State) (b : FaultBit) :
    (s.raiseFault b).rsp = some 0 := rfl
@[simp] theorem State.raiseFault_pending (s : State) (b : FaultBit) :
    (s.raiseFault b).pending = s.pending := rfl

@[simp] theorem State.raiseSeqFault_config (s : State) (b : FaultBit) :
    (s.raiseSeqFault b).config = s.config := rfl
@[simp] theorem State.raiseSeqFault_buf (s : State) (b : FaultBit) :
    (s.raiseSeqFault b).buf = s.buf := rfl
@[simp] theorem State.raiseSeqFault_len (s : State) (b : FaultBit) :
    (s.raiseSeqFault b).len = s.len := rfl
@[simp] theorem State.raiseSeqFault_phase (s : State) (b : FaultBit) :
    (s.raiseSeqFault b).phase = s.phase := rfl
@[simp] theorem State.raiseSeqFault_nrec (s : State) (b : FaultBit) :
    (s.raiseSeqFault b).nrec = s.nrec := rfl
@[simp] theorem State.raiseSeqFault_fmtCause (s : State) (b : FaultBit) :
    (s.raiseSeqFault b).fmtCause = s.fmtCause := rfl
@[simp] theorem State.raiseSeqFault_fault (s : State) (b : FaultBit) :
    (s.raiseSeqFault b).fault = s.fault ||| b.mask := rfl
@[simp] theorem State.raiseSeqFault_records (s : State) (b : FaultBit) :
    (s.raiseSeqFault b).records = s.records := rfl
@[simp] theorem State.raiseSeqFault_rsp (s : State) (b : FaultBit) :
    (s.raiseSeqFault b).rsp = none := rfl
@[simp] theorem State.raiseSeqFault_pending (s : State) (b : FaultBit) :
    (s.raiseSeqFault b).pending = s.pending := rfl

@[simp] theorem State.resetWith_config (c : Config) : (State.resetWith c).config = c := rfl
@[simp] theorem State.resetWith_buf (c : Config) : (State.resetWith c).buf = [] := rfl
@[simp] theorem State.resetWith_len (c : Config) : (State.resetWith c).len = 0 := rfl
@[simp] theorem State.resetWith_phase (c : Config) : (State.resetWith c).phase = .idle := rfl
@[simp] theorem State.resetWith_nrec (c : Config) : (State.resetWith c).nrec = 0 := rfl
@[simp] theorem State.resetWith_fmtCause (c : Config) : (State.resetWith c).fmtCause = 0 := rfl
@[simp] theorem State.resetWith_fault (c : Config) : (State.resetWith c).fault = 0 := rfl
@[simp] theorem State.resetWith_records (c : Config) : (State.resetWith c).records = [] := rfl
@[simp] theorem State.resetWith_rsp (c : Config) : (State.resetWith c).rsp = none := rfl
@[simp] theorem State.resetWith_pending (c : Config) : (State.resetWith c).pending = [] := rfl

end Sys2Proof.Machine
end

