-- ==== Sys2Proof/Laws/Store.lean ====
section
/-!
SUPPORT. The laws of the sparse stores: what a read after a write gives, and that a write keeps the canonical form and
any bound on the keys.
-/

namespace Sys2Proof.Machine

variable {α : Type}

theorem Store.read_write_same (m : Store α) (a : Nat) (v : α) : Store.read (Store.write m a v) a = some v := by
  induction m with
  | nil => simp [Store.write, Store.read]
  | cons x m ih =>
    obtain ⟨k, w⟩ := x
    unfold Store.write
    split
    · simp [Store.read]
    · split
      · simp [Store.read]
      · rename_i h
        simp [Store.read, Ne.symm h, ih]

theorem Store.read_write_other (m : Store α) (a : Nat) (v : α) {x : Nat} (h : x ≠ a) :
    Store.read (Store.write m a v) x = Store.read m x := by
  induction m with
  | nil => simp [Store.write, Store.read, Ne.symm h]
  | cons y m ih =>
    obtain ⟨k, w⟩ := y
    unfold Store.write
    split
    · simp [Store.read, Ne.symm h]
    · split
      · rename_i hk
        subst hk
        simp [Store.read, Ne.symm h]
      · simp only [Store.read, ih]

theorem Store.read_write (m : Store α) (a : Nat) (v : α) (x : Nat) :
    Store.read (Store.write m a v) x = if x = a then some v else Store.read m x := by
  split
  · rename_i h
    rw [h, Store.read_write_same]
  · rename_i h
    exact Store.read_write_other m a v h

/-- A store is canonical exactly when its tail is and its first key lies below the next one. -/
theorem Store.wf_cons (x : Nat × α) (m : Store α) :
    Store.wf (x :: m) = true ↔ (∀ y ∈ m.head?, x.1 < y.1) ∧ Store.wf m = true := by
  cases m <;> simp [Store.wf]

/-- The first key after a write is the written key or the first key before it. -/
theorem Store.head_write (m : Store α) (a : Nat) (v : α) {y : Nat × α} (h : y ∈ (Store.write m a v).head?) :
    y.1 = a ∨ ∃ z ∈ m.head?, y.1 = z.1 := by
  cases m with
  | nil =>
    simp [Store.write] at h
    exact .inl (by rw [← h])
  | cons x m =>
    obtain ⟨k, w⟩ := x
    unfold Store.write at h
    split at h
    · simp at h
      exact .inl (by rw [← h])
    · split at h
      · simp at h
        exact .inl (by rw [← h])
      · simp at h
        exact .inr ⟨(k, w), by simp, by rw [← h]⟩

theorem Store.wf_write (m : Store α) (a : Nat) (v : α) (h : Store.wf m = true) :
    Store.wf (Store.write m a v) = true := by
  induction m with
  | nil => rfl
  | cons x m ih =>
    obtain ⟨k, w⟩ := x
    obtain ⟨hx, hm⟩ := (Store.wf_cons _ _).1 h
    unfold Store.write
    split
    · rename_i hak
      exact (Store.wf_cons _ _).2 ⟨by simpa using hak, h⟩
    · split
      · rename_i _ hak
        exact (Store.wf_cons _ _).2 ⟨by simpa [hak] using hx, hm⟩
      · rename_i h1 h2
        refine (Store.wf_cons _ _).2 ⟨?_, ih hm⟩
        intro y hy
        obtain hy | ⟨z, hz, hy⟩ := Store.head_write m a v hy
        · show k < y.1
          omega
        · rw [hy]
          exact hx z hz

/-- A bound on the keys is kept by a write of a key that meets it. -/
theorem Store.all_write (p : Nat → Bool) (m : Store α) (a : Nat) (v : α)
    (h : (m.all fun c => p c.1) = true) (ha : p a = true) : ((Store.write m a v).all fun c => p c.1) = true := by
  induction m with
  | nil => simp [Store.write, ha]
  | cons x m ih =>
    obtain ⟨k, w⟩ := x
    simp only [List.all_cons, Bool.and_eq_true] at h
    unfold Store.write
    split
    · simp only [List.all_cons, Bool.and_eq_true]
      exact ⟨ha, h⟩
    · split
      · simp only [List.all_cons, Bool.and_eq_true]
        exact ⟨ha, h.2⟩
      · simp only [List.all_cons, Bool.and_eq_true]
        exact ⟨h.1, ih h.2⟩

/-- A value that is read lies at a key that meets every bound on the keys. -/
theorem Store.key_of_read (p : Nat → Bool) (m : Store α) {a : Nat} {v : α}
    (h : (m.all fun c => p c.1) = true) (hr : Store.read m a = some v) : p a = true := by
  induction m with
  | nil => simp [Store.read] at hr
  | cons x m ih =>
    obtain ⟨k, w⟩ := x
    simp only [List.all_cons, Bool.and_eq_true] at h
    unfold Store.read at hr
    split at hr
    · rename_i hk
      rw [← hk]
      exact h.1
    · exact ih h.2 hr

/-- A read of BUF after a write. -/
theorem Memory.read_write (m : Memory) (a : Nat) (v : Byte) (x : Nat) :
    (m.write a v).read x = if x = a then some v else m.read x := Store.read_write m a v x

/-- A write keeps BUF in canonical form. -/
theorem Memory.wf_write (m : Memory) (a : Nat) (v : Byte) (h : m.wf = true) : (m.write a v).wf = true :=
  Store.wf_write m a v h

end Sys2Proof.Machine
end

