-- ==== Sys2Proof/Laws/Ops.lean ====
section
/-!
SUPPORT. What each shared operation can do, said once: the frame of a command, the checked accesses, the format check,
the block reads and the SEQ step.
-/

namespace Sys2Proof.Machine

theorem faultStopped_eq_false {s : State} : faultStopped s = false ↔ s.fault = 0 := by simp [faultStopped]

theorem faultStopped_eq_true {s : State} : faultStopped s = true ↔ s.fault ≠ 0 := by simp [faultStopped]

theorem seqEnabled_iff {s : State} : seqEnabled s = true ↔ s.phase = .busy ∧ s.fault = 0 := by
  simp [seqEnabled]

@[simp] theorem settle_ok (s t : State) : settle s (.ok t) = .next t := rfl

@[simp] theorem settle_error (s : State) (b : FaultBit) : settle s (.error b) = .next (s.raiseFault b) := rfl

/-- With no fault set, a command's checks and effect apply. -/
theorem command_of_noFault {s : State} (h : s.fault = 0) (e : Except FaultBit State) :
    command s e = settle s e := by simp [command, faultStopped, h]

/-- Under fault-stop a command answers 0 and changes nothing. -/
theorem command_of_faultStop {s : State} (h : s.fault ≠ 0) (e : Except FaultBit State) :
    command s e = .next (s.respond 0) := by
  unfold command
  rw [if_pos (faultStopped_eq_true.2 h)]

/-- What a command can do: be refused, take a fault, or have its effect. -/
theorem command_cases {s t : State} {e : Except FaultBit State} (h : command s e = .next t) :
    (s.fault ≠ 0 ∧ t = s.respond 0) ∨
      (s.fault = 0 ∧ ((∃ b, e = .error b ∧ t = s.raiseFault b) ∨ e = .ok t)) := by
  by_cases hf : s.fault = 0
  · rw [command_of_noFault hf] at h
    cases e with
    | error b => exact .inr ⟨hf, .inl ⟨b, rfl, by simpa using h.symm⟩⟩
    | ok u => exact .inr ⟨hf, .inr (by simpa using h)⟩
  · rw [command_of_faultStop hf] at h
    exact .inl ⟨hf, by simpa using h.symm⟩

/-- A command never stops the model. -/
theorem command_next (s : State) (e : Except FaultBit State) : ∃ t, command s e = .next t := by
  unfold command settle
  split
  · exact ⟨_, rfl⟩
  · split <;> exact ⟨_, rfl⟩

theorem memRead_eq_ok {s : State} {a : Nat} {v : Byte} :
    memRead s a = .ok v ↔ a < s.config.bufCap ∧ s.buf.read a = some v := by
  unfold memRead
  split
  · simp
    omega
  · split
    · simp_all
    · rename_i w hw
      simp [hw]
      omega

/-- A checked read faults on an address that BUF does not have, and on a byte nothing has written. -/
theorem memRead_eq_error {s : State} {a : Nat} {b : FaultBit} :
    memRead s a = .error b ↔
      (s.config.bufCap ≤ a ∧ b = .range) ∨ (a < s.config.bufCap ∧ s.buf.read a = none ∧ b = .uninitRead) := by
  unfold memRead
  split
  · rename_i h
    simp [h, Nat.not_lt.2 h, eq_comm]
  · rename_i h
    have h' : a < s.config.bufCap := by omega
    split
    · rename_i hr
      simp [h, h', hr, eq_comm]
    · rename_i hr
      simp [h, hr]

theorem memWrite_of_lt {s : State} {a : Nat} (h : a < s.config.bufCap) (v : Byte) :
    memWrite s a v = .ok (s.setBuf (s.buf.write a v)) := by simp [memWrite, h]

theorem memWrite_of_le {s : State} {a : Nat} (h : s.config.bufCap ≤ a) (v : Byte) :
    memWrite s a v = .error .range := by simp [memWrite, h]

/-- The reads succeed exactly when each byte exists and has been written, and give those bytes in order. -/
theorem memReadMany_eq_ok {s : State} {a n : Nat} {bytes : List Byte} :
    memReadMany s a n = .ok bytes ↔
      bytes.length = n ∧ ∀ j, j < n → a + j < s.config.bufCap ∧ s.buf.read (a + j) = bytes[j]? := by
  induction n generalizing a bytes with
  | zero =>
    simp [memReadMany, eq_comm (a := ([] : List Byte))]
  | succ n ih =>
    unfold memReadMany
    constructor
    · intro h
      split at h
      · cases h
      · rename_i v hv
        split at h
        · cases h
        · rename_i vs hvs
          cases h
          obtain ⟨hlen, hall⟩ := ih.1 hvs
          refine ⟨by simp [hlen], fun j hj => ?_⟩
          cases j with
          | zero => simpa using memRead_eq_ok.1 hv
          | succ j =>
            have := hall j (by omega)
            simpa [Nat.add_assoc, Nat.add_comm 1 j] using this
    · rintro ⟨hlen, hall⟩
      obtain _ | ⟨v, vs⟩ := bytes
      · simp at hlen
      · have h0 : memRead s a = .ok v := memRead_eq_ok.2 (by simpa using hall 0 (by omega))
        have hrest : memReadMany s (a + 1) n = .ok vs := by
          refine ih.2 ⟨by simpa using hlen, fun j hj => ?_⟩
          have := hall (j + 1) (by omega)
          simpa [Nat.add_assoc, Nat.add_comm 1 j] using this
        rw [h0, hrest]

/-- The reads fault where one of the bytes is missing. -/
theorem memReadMany_error_of {s : State} {a n j : Nat} (hj : j < n)
    (hbad : s.config.bufCap ≤ a + j ∨ s.buf.read (a + j) = none) : ∃ b, memReadMany s a n = .error b := by
  cases h : memReadMany s a n with
  | error b => exact ⟨b, rfl⟩
  | ok bytes =>
    obtain ⟨hlen, hall⟩ := memReadMany_eq_ok.1 h
    obtain ⟨hlt, hr⟩ := hall j hj
    rcases hbad with hb | hb
    · omega
    · rw [hb] at hr
      have : bytes[j]? ≠ none := by simp [hlen, hj]
      exact absurd hr.symm this

/-- Which fault a run of reads takes, where every address exists. -/
theorem memReadMany_error_uninit {s : State} {a n : Nat} {b : FaultBit} (hcap : a + n ≤ s.config.bufCap)
    (h : memReadMany s a n = .error b) : b = .uninitRead := by
  induction n generalizing a with
  | zero => simp [memReadMany] at h
  | succ n ih =>
    unfold memReadMany at h
    split at h
    · rename_i b' hb
      cases h
      rcases memRead_eq_error.1 hb with ⟨hr, _⟩ | ⟨_, _, hu⟩
      · omega
      · exact hu
    · split at h
      · rename_i hb
        cases h
        exact ih (by omega) hb
      · cases h

/-- The SEQ step: a fault with nothing else changed, or the record written; it stops only at a record number that
REC does not have. -/
theorem seqStep_cases {s t : State} (h : seqStep s = .next t) :
    (∃ b, readBlock s (60 * s.nrec.toNat) = .error b ∧ t = s.raiseSeqFault b) ∨
      (∃ blk, readBlock s (60 * s.nrec.toNat) = .ok blk ∧ s.nrec.toNat < s.config.recCap ∧
        t = s.storeRecord (decodeProgram blk)) := by
  unfold seqStep at h
  split at h
  · rename_i b hb
    cases h
    exact .inl ⟨b, hb, rfl⟩
  · rename_i blk hb
    split at h
    · rename_i hlt
      cases h
      exact .inr ⟨blk, hb, hlt, rfl⟩
    · cases h

/-- A turn of SEQ: nothing where it is not enabled, else its step. -/
theorem seqTurn_cases {s t : State} (h : seqTurn s = .next t) :
    (seqEnabled s = false ∧ t = s) ∨ (s.phase = .busy ∧ s.fault = 0 ∧ seqStep s = .next t) := by
  unfold seqTurn at h
  split at h
  · rename_i he
    exact .inr ⟨(seqEnabled_iff.1 he).1, (seqEnabled_iff.1 he).2, h⟩
  · rename_i he
    cases h
    exact .inl ⟨by simpa using he, rfl⟩

/-- A successful read of a block gives the bytes of BUF at the offsets 4..58. -/
theorem readBlock_eq_ok {s : State} {base : Nat} {blk : Block} (h : readBlock s base = .ok blk) (j : Fin 60)
    (h4 : 4 ≤ j.val) (h58 : j.val ≤ 58) :
    base + j.val < s.config.bufCap ∧ s.buf.read (base + j.val) = some (blk j) := by
  unfold readBlock at h
  split at h
  · cases h
  · rename_i bytes hb
    cases h
    obtain ⟨hlen, hall⟩ := memReadMany_eq_ok.1 hb
    obtain ⟨hlt, hr⟩ := hall (j.val - 4) (by omega)
    have he : base + 4 + (j.val - 4) = base + j.val := by omega
    rw [he] at hlt hr
    refine ⟨hlt, hr.trans ?_⟩
    have hj : j.val - 4 < bytes.length := by omega
    simp [blockOfBytes, h4, h58, List.getElem?_eq_getElem hj]

end Sys2Proof.Machine
end

