-- ==== Sys2Proof/Laws/Exec.lean ====
section
/-!
SUPPORT. What a command and a step can do, said once: every effect of every command, and the cases of a step.
-/

namespace Sys2Proof.Machine

/-- The effects a command has when it takes no fault and is not refused: a response alone, one byte of BUF, LEN, or the
start of a decode. -/
inductive CommandEffect (s : State) : Instr → State → Prop where
  /-- A response word and nothing else. -/
  | answers (i : Instr) (w : HostWord) : CommandEffect s i (s.respond w)
  /-- WRBUF (R702). -/
  | writesByte (a : Count) (d : Byte) (hbusy : s.phase ≠ .busy) (hcap : a.toNat < s.config.bufCap) :
      CommandEffect s (.wrbuf a d) ((s.setBuf (s.buf.write a.toNat d)).respond 0)
  /-- WRLEN (R704). -/
  | setsLength (n : Count) (hbusy : s.phase ≠ .busy) (hcap : n.toNat ≤ s.config.bufCap) :
      CommandEffect s (.wrlen n) ((s.setLen n).respond 0)
  /-- START (R602). -/
  | beginsDecode (cause : BitVec 2) (hbusy : s.phase ≠ .busy) (hcheck : fmtCheck s = .ok cause) :
      CommandEffect s .start ((s.beginDecode cause).respond 0)

/-- What any command can do: be refused under fault-stop, take a fault, or have its effect. A fault is taken only with
no fault set. -/
theorem exec_cases {i : Instr} {s t : State} (h : exec i s = .next t) :
    (s.fault ≠ 0 ∧ i ≠ .rdstat ∧ t = s.respond 0) ∨ (s.fault = 0 ∧ ∃ b, t = s.raiseFault b) ∨
      ((s.fault = 0 ∨ i = .rdstat) ∧ CommandEffect s i t) := by
  have reads : ∀ (f : Field) (k : Count) (j : Instr), j ≠ .rdstat → readRecord f k s = .next t →
      (s.fault ≠ 0 ∧ j ≠ .rdstat ∧ t = s.respond 0) ∨ (s.fault = 0 ∧ ∃ b, t = s.raiseFault b) ∨
        ((s.fault = 0 ∨ j = .rdstat) ∧ CommandEffect s j t) := by
    intro f k j hj hr
    obtain ⟨hf, rfl⟩ | ⟨hf, ⟨b, -, rfl⟩ | he⟩ := command_cases hr
    · exact .inl ⟨hf, hj, rfl⟩
    · exact .inr (.inl ⟨hf, b, rfl⟩)
    · split at he
      · cases he
      · cases he
        exact .inr (.inr ⟨.inl hf, .answers _ _⟩)
  have plain : ∀ (e : Except FaultBit State) (j : Instr), j ≠ .rdstat → command s e = .next t →
      (∀ u, e = .ok u → CommandEffect s j u) →
      (s.fault ≠ 0 ∧ j ≠ .rdstat ∧ t = s.respond 0) ∨ (s.fault = 0 ∧ ∃ b, t = s.raiseFault b) ∨
        ((s.fault = 0 ∨ j = .rdstat) ∧ CommandEffect s j t) := by
    intro e j hj hr hok
    obtain ⟨hf, rfl⟩ | ⟨hf, ⟨b, -, rfl⟩ | he⟩ := command_cases hr
    · exact .inl ⟨hf, hj, rfl⟩
    · exact .inr (.inl ⟨hf, b, rfl⟩)
    · exact .inr (.inr ⟨.inl hf, hok t he⟩)
  cases i
  case nop => exact plain _ _ (by decide) h fun u hu => by cases hu; exact .answers _ _
  case rdstat =>
    cases h
    exact .inr (.inr ⟨.inr rfl, .answers _ _⟩)
  case wrbuf a d =>
    refine plain _ _ (by simp) h fun u hu => ?_
    split at hu
    · cases hu
    · rename_i hb
      by_cases hc : a.toNat < s.config.bufCap
      · rw [memWrite_of_lt hc] at hu
        cases hu
        exact .writesByte a d hb hc
      · rw [memWrite_of_le (by omega)] at hu
        cases hu
  case rdbuf a =>
    refine plain _ _ (by simp) h fun u hu => ?_
    split at hu
    · cases hu
    · cases hu
      exact .answers _ _
  case wrlen n =>
    refine plain _ _ (by simp) h fun u hu => ?_
    split at hu
    · cases hu
    · rename_i hb
      split at hu
      · cases hu
      · rename_i hc
        cases hu
        exact .setsLength n hb (by omega)
  case rdlen => exact plain _ _ (by decide) h fun u hu => by cases hu; exact .answers _ _
  case rdnrec => exact plain _ _ (by decide) h fun u hu => by cases hu; exact .answers _ _
  case start =>
    refine plain _ _ (by decide) h fun u hu => ?_
    split at hu
    · cases hu
    · rename_i hb
      split at hu
      · cases hu
      · rename_i cause hc
        cases hu
        exact .beginsDecode cause hb hc
  case combine l m => exact plain _ _ (by simp) h fun u hu => by cases hu; exact .answers _ _
  case reservedOpAB op low => exact plain _ _ (by simp) h fun u hu => by cases hu
  case reservedOpCF op low => exact plain _ _ (by simp) h fun u hu => by cases hu
  case rdrecReserved4C k f => exact plain _ _ (by simp) h fun u hu => by cases hu
  case rdrecReserved50 k f => exact plain _ _ (by simp) h fun u hu => by cases hu
  case rdrecReserved60 k f => exact plain _ _ (by simp) h fun u hu => by cases hu
  case rdrecReserved80 k f => exact plain _ _ (by simp) h fun u hu => by cases hu
  all_goals exact reads _ _ _ (by simp) h

/-- What a malformed word can do: be refused, or take ILLEGAL_CMD, under fault-stop too where its operation code is
RDSTAT's. -/
theorem execMalformed_cases {op : BitVec 4} {s t : State} (h : execMalformed op s = .next t) :
    (s.fault ≠ 0 ∧ op ≠ 0x6 ∧ t = s.respond 0) ∨ ((s.fault = 0 ∨ op = 0x6) ∧ t = s.raiseFault .illegalCmd) := by
  unfold execMalformed at h
  split at h
  · rename_i hop
    cases h
    exact .inr ⟨.inr hop, rfl⟩
  · rename_i hop
    obtain ⟨hf, rfl⟩ | ⟨hf, ⟨b, hb, rfl⟩ | he⟩ := command_cases h
    · exact .inl ⟨hf, hop, rfl⟩
    · cases hb
      exact .inr ⟨.inl hf, rfl⟩
    · cases he

/-- What a host command can do, from its word. -/
theorem commandStep_cases {w : HostWord} {s t : State} (h : commandStep w s = .next t) :
    (∃ i, decode w = .ok i ∧ exec i s = .next t) ∨
      (∃ op, decode w = .error (.mustBeZero op) ∧ execMalformed op s = .next t) := by
  unfold commandStep at h
  split at h
  · rename_i i hi
    exact .inl ⟨i, hi, h⟩
  · rename_i op hop
    exact .inr ⟨op, hop, h⟩

/-- What a step can do: a turn of SEQ where nothing is pending, or the next pending event. -/
theorem step_cases {s t : State} (h : step s = .next t) :
    (s.pending = [] ∧ seqTurn s = .next t) ∨
      (∃ e rest, s.pending = e :: rest ∧ takeEvent e (s.setPending rest) = .next t) := by
  unfold step advance at h
  split at h
  · rename_i hp
    exact .inl ⟨hp, h⟩
  · rename_i e rest hp
    exact .inr ⟨e, rest, hp, h⟩

/-- Everything a step can do, with `u` the state whose first coming event is taken off: nothing, SEQ's fault, SEQ's
record, a reset, a refused command, a command's fault, a command's effect. -/
theorem step_effects {s t u : State} (h : step s = .next t) (hu : u = s.setPending s.pending.tail) :
    t = u ∨
      (s.phase = .busy ∧ s.fault = 0 ∧ ∃ b, readBlock u (60 * s.nrec.toNat) = .error b ∧ t = u.raiseSeqFault b) ∨
      (s.phase = .busy ∧ s.fault = 0 ∧ ∃ blk, readBlock u (60 * s.nrec.toNat) = .ok blk ∧
        s.nrec.toNat < s.config.recCap ∧ t = u.storeRecord (decodeProgram blk)) ∨
      (s.pending.head? = some .reset ∧ t = (State.resetWith s.config).setPending s.pending.tail) ∨
      (s.fault ≠ 0 ∧ t = u.respond 0) ∨
      (∃ b, (s.fault = 0 ∨ b = .illegalCmd) ∧ t = u.raiseFault b) ∨
      ∃ w i, s.pending.head? = some (.command w) ∧ decode w = .ok i ∧ (s.fault = 0 ∨ i = .rdstat) ∧
        CommandEffect u i t := by
  have seq : seqTurn u = .next t → t = u ∨
      (s.phase = .busy ∧ s.fault = 0 ∧ ∃ b, readBlock u (60 * s.nrec.toNat) = .error b ∧ t = u.raiseSeqFault b) ∨
      (s.phase = .busy ∧ s.fault = 0 ∧ ∃ blk, readBlock u (60 * s.nrec.toNat) = .ok blk ∧
        s.nrec.toNat < s.config.recCap ∧ t = u.storeRecord (decodeProgram blk)) := by
    intro ht
    subst hu
    obtain ⟨-, rfl⟩ | ⟨hp, hf, hs⟩ := seqTurn_cases ht
    · exact .inl rfl
    · obtain ⟨b, hb, rfl⟩ | ⟨blk, hb, hn, rfl⟩ := seqStep_cases hs
      · exact .inr (.inl ⟨hp, hf, b, hb, rfl⟩)
      · exact .inr (.inr ⟨hp, hf, blk, hb, hn, rfl⟩)
  obtain ⟨hp, ht⟩ | ⟨e, rest, hp, ht⟩ := step_cases h
  · have hus : u = s := by rw [hu, hp]; exact congrArg s.setPending hp.symm
    rw [← hus] at ht
    obtain h1 | h1 | h1 := seq ht
    · exact .inl h1
    · exact .inr (.inl h1)
    · exact .inr (.inr (.inl h1))
  · have hur : s.setPending rest = u := by rw [hu, hp]; rfl
    rw [hur] at ht
    have hfault : u.fault = s.fault := by rw [hu]; rfl
    cases e with
    | seq =>
      obtain h1 | h1 | h1 := seq ht
      · exact .inl h1
      · exact .inr (.inl h1)
      · exact .inr (.inr (.inl h1))
    | reset =>
      subst hu
      cases ht
      exact .inr (.inr (.inr (.inl ⟨by rw [hp]; rfl, rfl⟩)))
    | command w =>
      obtain ⟨i, hi, he⟩ | ⟨op, hop, he⟩ := commandStep_cases ht
      · obtain ⟨hf, -, rfl⟩ | ⟨hf, b, rfl⟩ | ⟨hf, heff⟩ := exec_cases he
        · exact .inr (.inr (.inr (.inr (.inl ⟨hfault ▸ hf, rfl⟩))))
        · exact .inr (.inr (.inr (.inr (.inr (.inl ⟨b, .inl (hfault ▸ hf), rfl⟩)))))
        · exact .inr (.inr (.inr (.inr (.inr (.inr ⟨w, i, by rw [hp]; rfl, hi, hfault ▸ hf, heff⟩)))))
      · obtain ⟨hf, -, rfl⟩ | ⟨-, rfl⟩ := execMalformed_cases he
        · exact .inr (.inr (.inr (.inr (.inl ⟨hfault ▸ hf, rfl⟩))))
        · exact .inr (.inr (.inr (.inr (.inr (.inl ⟨_, .inr rfl, rfl⟩)))))

end Sys2Proof.Machine
end

