-- ==== Sys2Proof/Laws/PerInstr.lean ====
section
/-!
SUPPORT. The encoder held against the rows of spec/opcode_table.json: for each command, its word carries the row's
fixed bits.
-/

namespace Sys2Proof.Laws

/-- The "mask" of a command's row in spec/opcode_table.json. -/
def rowMask : Instr → HostWord
  | .nop => 0xFFFFFFFF
  | .wrbuf _ _ => 0xF0000000
  | .rdbuf _ => 0xF00000FF
  | .wrlen _ => 0xF00000FF
  | .rdlen => 0xFFFFFFFF
  | .start => 0xFFFFFFFF
  | .rdstat => 0xFFFFFFFF
  | .rdnrec => 0xFFFFFFFF
  | .rdrecIndex _ => 0xF00000FF
  | .rdrecGroupNum _ => 0xF00000FF
  | .rdrecGroupMask _ => 0xF00000FF
  | .rdrecNumber _ => 0xF00000FF
  | .rdrecVcfRel _ => 0xF00000FF
  | .rdrecVcaRel _ => 0xF00000FF
  | .rdrecVcfDcy _ => 0xF00000FF
  | .rdrecVcaDcy _ => 0xF00000FF
  | .rdrecVcfAtk _ => 0xF00000FF
  | .rdrecVcaAtk _ => 0xF00000FF
  | .rdrecVcfSus _ => 0xF00000FF
  | .rdrecVcaSus _ => 0xF00000FF
  | .rdrecVcfMod _ => 0xF00000FF
  | .rdrecVcfRes _ => 0xF00000FF
  | .rdrecOscPWM _ => 0xF00000FF
  | .rdrecLfoFreq _ => 0xF00000FF
  | .rdrecFmAmnt _ => 0xF00000FF
  | .rdrecPwmAmnt _ => 0xF00000FF
  | .rdrecPortAmt _ => 0xF00000FF
  | .rdrecOsc2Detune _ => 0xF00000FF
  | .rdrecVcfFreq _ => 0xF00000FF
  | .rdrecVco2Freq _ => 0xF00000FF
  | .rdrecVco1Freq _ => 0xF00000FF
  | .rdrecLfoTrigPoint _ => 0xF00000FF
  | .rdrecPedalSustn _ => 0xF00000FF
  | .rdrecFmVibRaise _ => 0xF00000FF
  | .rdrecPwmVibRaise _ => 0xF00000FF
  | .rdrecFmVibDelay _ => 0xF00000FF
  | .rdrecPwmVibDelay _ => 0xF00000FF
  | .rdrecVoiceDetune _ => 0xF00000FF
  | .rdrecBendAmount _ => 0xF00000FF
  | .rdrecUnison _ => 0xF00000FF
  | .rdrecFilterFM _ => 0xF00000FF
  | .rdrecOsc2FM _ => 0xF00000FF
  | .rdrecOsc2PWM _ => 0xF00000FF
  | .rdrecOsc1PWM _ => 0xF00000FF
  | .rdrecNoise _ => 0xF00000FF
  | .rdrecFourPole _ => 0xF00000FF
  | .rdrecOsc2On _ => 0xF00000FF
  | .rdrecOsc2Half _ => 0xF00000FF
  | .rdrecOsc1On _ => 0xF00000FF
  | .rdrecKbdTrack _ => 0xF00000FF
  | .rdrecPw1180 _ => 0xF00000FF
  | .rdrecVco1180 _ => 0xF00000FF
  | .rdrecVcaMod _ => 0xF00000FF
  | .rdrecFEnv _ => 0xF00000FF
  | .rdrecSync _ => 0xF00000FF
  | .rdrecOsc1FM _ => 0xF00000FF
  | .rdrecSpare _ => 0xF00000FF
  | .rdrecLegato _ => 0xF00000FF
  | .rdrecPortBend _ => 0xF00000FF
  | .rdrecLfoTrack _ => 0xF00000FF
  | .rdrecFmDlyInvert _ => 0xF00000FF
  | .rdrecPortQuant _ => 0xF00000FF
  | .rdrecPortMatch _ => 0xF00000FF
  | .rdrecFlag180 _ => 0xF00000FF
  | .rdrecFlag90 _ => 0xF00000FF
  | .rdrecPwmDlyInvert _ => 0xF00000FF
  | .rdrecPwmQuant _ => 0xF00000FF
  | .rdrecExpoPort _ => 0xF00000FF
  | .rdrecConstPort _ => 0xF00000FF
  | .rdrecLfoRateDelay _ => 0xF00000FF
  | .rdrecFmQuant _ => 0xF00000FF
  | .rdrecOsc2Wave _ => 0xF00000FF
  | .rdrecOsc1Wave _ => 0xF00000FF
  | .rdrecLfoWave _ => 0xF00000FF
  | .rdrecTrigLfoWave _ => 0xF00000FF
  | .rdrecVolume _ => 0xF00000FF
  | .rdrecVco2PW _ => 0xF00000FF
  | .rdrecOsc2WaveTri _ => 0xF00000FF
  | .rdrecOsc2WaveSqr _ => 0xF00000FF
  | .rdrecOsc1WaveTri _ => 0xF00000FF
  | .rdrecOsc1WaveSqr _ => 0xF00000FF
  | .rdrecLfoWaveTri _ => 0xF00000FF
  | .rdrecLfoWaveSqr _ => 0xF00000FF
  | .rdrecLfoWaveSnH _ => 0xF00000FF
  | .rdrecReserved4C _ _ => 0xF00000FC
  | .rdrecReserved50 _ _ => 0xF00000F0
  | .rdrecReserved60 _ _ => 0xF00000E0
  | .rdrecReserved80 _ _ => 0xF0000080
  | .combine _ _ => 0xFFFF0000
  | .reservedOpAB _ _ => 0xE0000000
  | .reservedOpCF _ _ => 0xC0000000

/-- The "match" of a command's row in spec/opcode_table.json. -/
def rowMatch : Instr → HostWord
  | .nop => 0x00000000
  | .wrbuf _ _ => 0x10000000
  | .rdbuf _ => 0x20000000
  | .wrlen _ => 0x30000000
  | .rdlen => 0x40000000
  | .start => 0x50000000
  | .rdstat => 0x60000000
  | .rdnrec => 0x70000000
  | .rdrecIndex _ => 0x80000000
  | .rdrecGroupNum _ => 0x80000001
  | .rdrecGroupMask _ => 0x80000002
  | .rdrecNumber _ => 0x80000003
  | .rdrecVcfRel _ => 0x80000004
  | .rdrecVcaRel _ => 0x80000005
  | .rdrecVcfDcy _ => 0x80000006
  | .rdrecVcaDcy _ => 0x80000007
  | .rdrecVcfAtk _ => 0x80000008
  | .rdrecVcaAtk _ => 0x80000009
  | .rdrecVcfSus _ => 0x8000000A
  | .rdrecVcaSus _ => 0x8000000B
  | .rdrecVcfMod _ => 0x8000000C
  | .rdrecVcfRes _ => 0x8000000D
  | .rdrecOscPWM _ => 0x8000000E
  | .rdrecLfoFreq _ => 0x8000000F
  | .rdrecFmAmnt _ => 0x80000010
  | .rdrecPwmAmnt _ => 0x80000011
  | .rdrecPortAmt _ => 0x80000012
  | .rdrecOsc2Detune _ => 0x80000013
  | .rdrecVcfFreq _ => 0x80000014
  | .rdrecVco2Freq _ => 0x80000015
  | .rdrecVco1Freq _ => 0x80000016
  | .rdrecLfoTrigPoint _ => 0x80000017
  | .rdrecPedalSustn _ => 0x80000018
  | .rdrecFmVibRaise _ => 0x80000019
  | .rdrecPwmVibRaise _ => 0x8000001A
  | .rdrecFmVibDelay _ => 0x8000001B
  | .rdrecPwmVibDelay _ => 0x8000001C
  | .rdrecVoiceDetune _ => 0x8000001D
  | .rdrecBendAmount _ => 0x8000001E
  | .rdrecUnison _ => 0x8000001F
  | .rdrecFilterFM _ => 0x80000020
  | .rdrecOsc2FM _ => 0x80000021
  | .rdrecOsc2PWM _ => 0x80000022
  | .rdrecOsc1PWM _ => 0x80000023
  | .rdrecNoise _ => 0x80000024
  | .rdrecFourPole _ => 0x80000025
  | .rdrecOsc2On _ => 0x80000026
  | .rdrecOsc2Half _ => 0x80000027
  | .rdrecOsc1On _ => 0x80000028
  | .rdrecKbdTrack _ => 0x80000029
  | .rdrecPw1180 _ => 0x8000002A
  | .rdrecVco1180 _ => 0x8000002B
  | .rdrecVcaMod _ => 0x8000002C
  | .rdrecFEnv _ => 0x8000002D
  | .rdrecSync _ => 0x8000002E
  | .rdrecOsc1FM _ => 0x8000002F
  | .rdrecSpare _ => 0x80000030
  | .rdrecLegato _ => 0x80000031
  | .rdrecPortBend _ => 0x80000032
  | .rdrecLfoTrack _ => 0x80000033
  | .rdrecFmDlyInvert _ => 0x80000034
  | .rdrecPortQuant _ => 0x80000035
  | .rdrecPortMatch _ => 0x80000036
  | .rdrecFlag180 _ => 0x80000037
  | .rdrecFlag90 _ => 0x80000038
  | .rdrecPwmDlyInvert _ => 0x80000039
  | .rdrecPwmQuant _ => 0x8000003A
  | .rdrecExpoPort _ => 0x8000003B
  | .rdrecConstPort _ => 0x8000003C
  | .rdrecLfoRateDelay _ => 0x8000003D
  | .rdrecFmQuant _ => 0x8000003E
  | .rdrecOsc2Wave _ => 0x8000003F
  | .rdrecOsc1Wave _ => 0x80000040
  | .rdrecLfoWave _ => 0x80000041
  | .rdrecTrigLfoWave _ => 0x80000042
  | .rdrecVolume _ => 0x80000043
  | .rdrecVco2PW _ => 0x80000044
  | .rdrecOsc2WaveTri _ => 0x80000045
  | .rdrecOsc2WaveSqr _ => 0x80000046
  | .rdrecOsc1WaveTri _ => 0x80000047
  | .rdrecOsc1WaveSqr _ => 0x80000048
  | .rdrecLfoWaveTri _ => 0x80000049
  | .rdrecLfoWaveSqr _ => 0x8000004A
  | .rdrecLfoWaveSnH _ => 0x8000004B
  | .rdrecReserved4C _ _ => 0x8000004C
  | .rdrecReserved50 _ _ => 0x80000050
  | .rdrecReserved60 _ _ => 0x80000060
  | .rdrecReserved80 _ _ => 0x80000080
  | .combine _ _ => 0x90000000
  | .reservedOpAB _ _ => 0xA0000000
  | .reservedOpCF _ _ => 0xC0000000

/-- The word of a well-formed command has its row's fixed bits. -/
def TableRow.Statement (i : Instr) : Prop := i.wellFormed = true → encode i &&& rowMask i = rowMatch i

theorem append_and {n m : Nat} (x x' : BitVec n) (y y' : BitVec m) : (x ++ y) &&& (x' ++ y') = (x &&& x') ++ (y &&& y') := by
  ext i hi
  simp only [BitVec.getElem_and, BitVec.getElem_append]
  split <;> simp

theorem commandWord_and (op op' : BitVec 4) (a a' : Count) (d d' : Byte) :
    commandWord op a d &&& commandWord op' a' d' = commandWord (op &&& op') (a &&& a') (d &&& d') :=
  (append_and (op ++ a) (op' ++ a') d d').trans (congrArg (· ++ (d &&& d')) (append_and op op' a a'))

/-- A word masked to its operation code and data byte. -/
theorem and_op_data (op : BitVec 4) (a : Count) (d : Byte) :
    commandWord op a d &&& 0xF00000FF = commandWord op 0 d := by
  have h : (0xF00000FF : HostWord) = commandWord 0xF 0 0xFF := by decide
  have h1 : op &&& 0xF = op := BitVec.and_allOnes
  have h2 : d &&& 0xFF = d := BitVec.and_allOnes
  have h3 : a &&& 0 = 0 := BitVec.and_zero
  rw [h, commandWord_and, h1, h2, h3]

/-- A word masked to its operation code. -/
theorem and_op (op : BitVec 4) (a : Count) (d : Byte) : commandWord op a d &&& 0xF0000000 = commandWord op 0 0 := by
  have h : (0xF0000000 : HostWord) = commandWord 0xF 0 0 := by decide
  have h1 : op &&& 0xF = op := BitVec.and_allOnes
  have h2 : a &&& 0 = 0 := BitVec.and_zero
  have h3 : d &&& 0 = 0 := BitVec.and_zero
  rw [h, commandWord_and, h1, h2, h3]

/-- A word masked to its operation code and the high bits of its data byte. -/
theorem and_op_mask (op : BitVec 4) (a : Count) (d mask : Byte) :
    commandWord op a d &&& commandWord 0xF 0 mask = commandWord op 0 (d &&& mask) := by
  have h1 : op &&& 0xF = op := BitVec.and_allOnes
  have h2 : a &&& 0 = 0 := BitVec.and_zero
  rw [commandWord_and, h1, h2]

theorem combineWord_and (l m : Byte) : combineWord l m &&& 0xFFFF0000 = 0x90000000 := by
  have hl : l &&& 0 = 0 := BitVec.and_zero
  have hm : m &&& 0 = 0 := BitVec.and_zero
  calc combineWord l m &&& 0xFFFF0000
      = ((((0x9#4) ++ (0#12)) &&& ((0xF#4) ++ (0xFFF#12))) ++ (m &&& 0)) ++ (l &&& 0) :=
        (append_and (((0x9#4) ++ (0#12)) ++ m) (((0xF#4) ++ (0xFFF#12)) ++ (0#8)) l 0).trans
          (congrArg (· ++ (l &&& 0)) (append_and ((0x9#4) ++ (0#12)) ((0xF#4) ++ (0xFFF#12)) m 0))
    _ = 0x90000000 := by rw [hl, hm]; decide

theorem reservedOp_and (op mask : BitVec 4) (low : BitVec 28) :
    reservedWord op low &&& reservedWord mask 0 = reservedWord (op &&& mask) 0 := by
  have h : low &&& 0 = 0 := BitVec.and_zero
  exact (append_and op mask low 0).trans (by rw [h]; rfl)

theorem byte_and_4C : ∀ f : Byte, 0x4C ≤ f.toNat → f.toNat ≤ 0x4F → f &&& 0xFC = 0x4C := by decide
theorem byte_and_50 : ∀ f : Byte, 0x50 ≤ f.toNat → f.toNat ≤ 0x5F → f &&& 0xF0 = 0x50 := by decide
theorem byte_and_60 : ∀ f : Byte, 0x60 ≤ f.toNat → f.toNat ≤ 0x7F → f &&& 0xE0 = 0x60 := by decide
theorem byte_and_80 : ∀ f : Byte, 0x80 ≤ f.toNat → f &&& 0x80 = 0x80 := by decide
theorem op_and_AB : ∀ op : BitVec 4, op = 0xA ∨ op = 0xB → op &&& 0xE = 0xA := by decide
theorem op_and_CF : ∀ op : BitVec 4, 0xC ≤ op.toNat → op &&& 0xC = 0xC := by decide

theorem TableRow.nop : TableRow.Statement .nop := fun _ => by decide
theorem TableRow.rdlen : TableRow.Statement .rdlen := fun _ => by decide
theorem TableRow.start : TableRow.Statement .start := fun _ => by decide
theorem TableRow.rdstat : TableRow.Statement .rdstat := fun _ => by decide
theorem TableRow.rdnrec : TableRow.Statement .rdnrec := fun _ => by decide
theorem TableRow.wrbuf (a : Count) (d : Byte) : TableRow.Statement (.wrbuf a d) := fun _ => and_op 0x1 a d
theorem TableRow.rdbuf (a : Count) : TableRow.Statement (.rdbuf a) := fun _ => and_op_data 0x2 a 0
theorem TableRow.wrlen (n : Count) : TableRow.Statement (.wrlen n) := fun _ => and_op_data 0x3 n 0
theorem TableRow.rdrecIndex (k : Count) : TableRow.Statement (.rdrecIndex k) := fun _ => and_op_data 0x8 k 0x00
theorem TableRow.rdrecGroupNum (k : Count) : TableRow.Statement (.rdrecGroupNum k) := fun _ => and_op_data 0x8 k 0x01
theorem TableRow.rdrecGroupMask (k : Count) : TableRow.Statement (.rdrecGroupMask k) := fun _ => and_op_data 0x8 k 0x02
theorem TableRow.rdrecNumber (k : Count) : TableRow.Statement (.rdrecNumber k) := fun _ => and_op_data 0x8 k 0x03
theorem TableRow.rdrecVcfRel (k : Count) : TableRow.Statement (.rdrecVcfRel k) := fun _ => and_op_data 0x8 k 0x04
theorem TableRow.rdrecVcaRel (k : Count) : TableRow.Statement (.rdrecVcaRel k) := fun _ => and_op_data 0x8 k 0x05
theorem TableRow.rdrecVcfDcy (k : Count) : TableRow.Statement (.rdrecVcfDcy k) := fun _ => and_op_data 0x8 k 0x06
theorem TableRow.rdrecVcaDcy (k : Count) : TableRow.Statement (.rdrecVcaDcy k) := fun _ => and_op_data 0x8 k 0x07
theorem TableRow.rdrecVcfAtk (k : Count) : TableRow.Statement (.rdrecVcfAtk k) := fun _ => and_op_data 0x8 k 0x08
theorem TableRow.rdrecVcaAtk (k : Count) : TableRow.Statement (.rdrecVcaAtk k) := fun _ => and_op_data 0x8 k 0x09
theorem TableRow.rdrecVcfSus (k : Count) : TableRow.Statement (.rdrecVcfSus k) := fun _ => and_op_data 0x8 k 0x0A
theorem TableRow.rdrecVcaSus (k : Count) : TableRow.Statement (.rdrecVcaSus k) := fun _ => and_op_data 0x8 k 0x0B
theorem TableRow.rdrecVcfMod (k : Count) : TableRow.Statement (.rdrecVcfMod k) := fun _ => and_op_data 0x8 k 0x0C
theorem TableRow.rdrecVcfRes (k : Count) : TableRow.Statement (.rdrecVcfRes k) := fun _ => and_op_data 0x8 k 0x0D
theorem TableRow.rdrecOscPWM (k : Count) : TableRow.Statement (.rdrecOscPWM k) := fun _ => and_op_data 0x8 k 0x0E
theorem TableRow.rdrecLfoFreq (k : Count) : TableRow.Statement (.rdrecLfoFreq k) := fun _ => and_op_data 0x8 k 0x0F
theorem TableRow.rdrecFmAmnt (k : Count) : TableRow.Statement (.rdrecFmAmnt k) := fun _ => and_op_data 0x8 k 0x10
theorem TableRow.rdrecPwmAmnt (k : Count) : TableRow.Statement (.rdrecPwmAmnt k) := fun _ => and_op_data 0x8 k 0x11
theorem TableRow.rdrecPortAmt (k : Count) : TableRow.Statement (.rdrecPortAmt k) := fun _ => and_op_data 0x8 k 0x12
theorem TableRow.rdrecOsc2Detune (k : Count) : TableRow.Statement (.rdrecOsc2Detune k) := fun _ => and_op_data 0x8 k 0x13
theorem TableRow.rdrecVcfFreq (k : Count) : TableRow.Statement (.rdrecVcfFreq k) := fun _ => and_op_data 0x8 k 0x14
theorem TableRow.rdrecVco2Freq (k : Count) : TableRow.Statement (.rdrecVco2Freq k) := fun _ => and_op_data 0x8 k 0x15
theorem TableRow.rdrecVco1Freq (k : Count) : TableRow.Statement (.rdrecVco1Freq k) := fun _ => and_op_data 0x8 k 0x16
theorem TableRow.rdrecLfoTrigPoint (k : Count) : TableRow.Statement (.rdrecLfoTrigPoint k) := fun _ => and_op_data 0x8 k 0x17
theorem TableRow.rdrecPedalSustn (k : Count) : TableRow.Statement (.rdrecPedalSustn k) := fun _ => and_op_data 0x8 k 0x18
theorem TableRow.rdrecFmVibRaise (k : Count) : TableRow.Statement (.rdrecFmVibRaise k) := fun _ => and_op_data 0x8 k 0x19
theorem TableRow.rdrecPwmVibRaise (k : Count) : TableRow.Statement (.rdrecPwmVibRaise k) := fun _ => and_op_data 0x8 k 0x1A
theorem TableRow.rdrecFmVibDelay (k : Count) : TableRow.Statement (.rdrecFmVibDelay k) := fun _ => and_op_data 0x8 k 0x1B
theorem TableRow.rdrecPwmVibDelay (k : Count) : TableRow.Statement (.rdrecPwmVibDelay k) := fun _ => and_op_data 0x8 k 0x1C
theorem TableRow.rdrecVoiceDetune (k : Count) : TableRow.Statement (.rdrecVoiceDetune k) := fun _ => and_op_data 0x8 k 0x1D
theorem TableRow.rdrecBendAmount (k : Count) : TableRow.Statement (.rdrecBendAmount k) := fun _ => and_op_data 0x8 k 0x1E
theorem TableRow.rdrecUnison (k : Count) : TableRow.Statement (.rdrecUnison k) := fun _ => and_op_data 0x8 k 0x1F
theorem TableRow.rdrecFilterFM (k : Count) : TableRow.Statement (.rdrecFilterFM k) := fun _ => and_op_data 0x8 k 0x20
theorem TableRow.rdrecOsc2FM (k : Count) : TableRow.Statement (.rdrecOsc2FM k) := fun _ => and_op_data 0x8 k 0x21
theorem TableRow.rdrecOsc2PWM (k : Count) : TableRow.Statement (.rdrecOsc2PWM k) := fun _ => and_op_data 0x8 k 0x22
theorem TableRow.rdrecOsc1PWM (k : Count) : TableRow.Statement (.rdrecOsc1PWM k) := fun _ => and_op_data 0x8 k 0x23
theorem TableRow.rdrecNoise (k : Count) : TableRow.Statement (.rdrecNoise k) := fun _ => and_op_data 0x8 k 0x24
theorem TableRow.rdrecFourPole (k : Count) : TableRow.Statement (.rdrecFourPole k) := fun _ => and_op_data 0x8 k 0x25
theorem TableRow.rdrecOsc2On (k : Count) : TableRow.Statement (.rdrecOsc2On k) := fun _ => and_op_data 0x8 k 0x26
theorem TableRow.rdrecOsc2Half (k : Count) : TableRow.Statement (.rdrecOsc2Half k) := fun _ => and_op_data 0x8 k 0x27
theorem TableRow.rdrecOsc1On (k : Count) : TableRow.Statement (.rdrecOsc1On k) := fun _ => and_op_data 0x8 k 0x28
theorem TableRow.rdrecKbdTrack (k : Count) : TableRow.Statement (.rdrecKbdTrack k) := fun _ => and_op_data 0x8 k 0x29
theorem TableRow.rdrecPw1180 (k : Count) : TableRow.Statement (.rdrecPw1180 k) := fun _ => and_op_data 0x8 k 0x2A
theorem TableRow.rdrecVco1180 (k : Count) : TableRow.Statement (.rdrecVco1180 k) := fun _ => and_op_data 0x8 k 0x2B
theorem TableRow.rdrecVcaMod (k : Count) : TableRow.Statement (.rdrecVcaMod k) := fun _ => and_op_data 0x8 k 0x2C
theorem TableRow.rdrecFEnv (k : Count) : TableRow.Statement (.rdrecFEnv k) := fun _ => and_op_data 0x8 k 0x2D
theorem TableRow.rdrecSync (k : Count) : TableRow.Statement (.rdrecSync k) := fun _ => and_op_data 0x8 k 0x2E
theorem TableRow.rdrecOsc1FM (k : Count) : TableRow.Statement (.rdrecOsc1FM k) := fun _ => and_op_data 0x8 k 0x2F
theorem TableRow.rdrecSpare (k : Count) : TableRow.Statement (.rdrecSpare k) := fun _ => and_op_data 0x8 k 0x30
theorem TableRow.rdrecLegato (k : Count) : TableRow.Statement (.rdrecLegato k) := fun _ => and_op_data 0x8 k 0x31
theorem TableRow.rdrecPortBend (k : Count) : TableRow.Statement (.rdrecPortBend k) := fun _ => and_op_data 0x8 k 0x32
theorem TableRow.rdrecLfoTrack (k : Count) : TableRow.Statement (.rdrecLfoTrack k) := fun _ => and_op_data 0x8 k 0x33
theorem TableRow.rdrecFmDlyInvert (k : Count) : TableRow.Statement (.rdrecFmDlyInvert k) := fun _ => and_op_data 0x8 k 0x34
theorem TableRow.rdrecPortQuant (k : Count) : TableRow.Statement (.rdrecPortQuant k) := fun _ => and_op_data 0x8 k 0x35
theorem TableRow.rdrecPortMatch (k : Count) : TableRow.Statement (.rdrecPortMatch k) := fun _ => and_op_data 0x8 k 0x36
theorem TableRow.rdrecFlag180 (k : Count) : TableRow.Statement (.rdrecFlag180 k) := fun _ => and_op_data 0x8 k 0x37
theorem TableRow.rdrecFlag90 (k : Count) : TableRow.Statement (.rdrecFlag90 k) := fun _ => and_op_data 0x8 k 0x38
theorem TableRow.rdrecPwmDlyInvert (k : Count) : TableRow.Statement (.rdrecPwmDlyInvert k) := fun _ => and_op_data 0x8 k 0x39
theorem TableRow.rdrecPwmQuant (k : Count) : TableRow.Statement (.rdrecPwmQuant k) := fun _ => and_op_data 0x8 k 0x3A
theorem TableRow.rdrecExpoPort (k : Count) : TableRow.Statement (.rdrecExpoPort k) := fun _ => and_op_data 0x8 k 0x3B
theorem TableRow.rdrecConstPort (k : Count) : TableRow.Statement (.rdrecConstPort k) := fun _ => and_op_data 0x8 k 0x3C
theorem TableRow.rdrecLfoRateDelay (k : Count) : TableRow.Statement (.rdrecLfoRateDelay k) := fun _ => and_op_data 0x8 k 0x3D
theorem TableRow.rdrecFmQuant (k : Count) : TableRow.Statement (.rdrecFmQuant k) := fun _ => and_op_data 0x8 k 0x3E
theorem TableRow.rdrecOsc2Wave (k : Count) : TableRow.Statement (.rdrecOsc2Wave k) := fun _ => and_op_data 0x8 k 0x3F
theorem TableRow.rdrecOsc1Wave (k : Count) : TableRow.Statement (.rdrecOsc1Wave k) := fun _ => and_op_data 0x8 k 0x40
theorem TableRow.rdrecLfoWave (k : Count) : TableRow.Statement (.rdrecLfoWave k) := fun _ => and_op_data 0x8 k 0x41
theorem TableRow.rdrecTrigLfoWave (k : Count) : TableRow.Statement (.rdrecTrigLfoWave k) := fun _ => and_op_data 0x8 k 0x42
theorem TableRow.rdrecVolume (k : Count) : TableRow.Statement (.rdrecVolume k) := fun _ => and_op_data 0x8 k 0x43
theorem TableRow.rdrecVco2PW (k : Count) : TableRow.Statement (.rdrecVco2PW k) := fun _ => and_op_data 0x8 k 0x44
theorem TableRow.rdrecOsc2WaveTri (k : Count) : TableRow.Statement (.rdrecOsc2WaveTri k) := fun _ => and_op_data 0x8 k 0x45
theorem TableRow.rdrecOsc2WaveSqr (k : Count) : TableRow.Statement (.rdrecOsc2WaveSqr k) := fun _ => and_op_data 0x8 k 0x46
theorem TableRow.rdrecOsc1WaveTri (k : Count) : TableRow.Statement (.rdrecOsc1WaveTri k) := fun _ => and_op_data 0x8 k 0x47
theorem TableRow.rdrecOsc1WaveSqr (k : Count) : TableRow.Statement (.rdrecOsc1WaveSqr k) := fun _ => and_op_data 0x8 k 0x48
theorem TableRow.rdrecLfoWaveTri (k : Count) : TableRow.Statement (.rdrecLfoWaveTri k) := fun _ => and_op_data 0x8 k 0x49
theorem TableRow.rdrecLfoWaveSqr (k : Count) : TableRow.Statement (.rdrecLfoWaveSqr k) := fun _ => and_op_data 0x8 k 0x4A
theorem TableRow.rdrecLfoWaveSnH (k : Count) : TableRow.Statement (.rdrecLfoWaveSnH k) := fun _ => and_op_data 0x8 k 0x4B
theorem TableRow.rdrecReserved4C (k : Count) (f : Byte) : TableRow.Statement (.rdrecReserved4C k f) := fun h => by
  have hf : f &&& 0xFC = 0x4C := by
    simp only [Instr.wellFormed, Bool.and_eq_true, decide_eq_true_eq] at h
    exact byte_and_4C f h.1 h.2
  exact (and_op_mask 0x8 k f 0xFC).trans (by rw [hf]; rfl)
theorem TableRow.rdrecReserved50 (k : Count) (f : Byte) : TableRow.Statement (.rdrecReserved50 k f) := fun h => by
  have hf : f &&& 0xF0 = 0x50 := by
    simp only [Instr.wellFormed, Bool.and_eq_true, decide_eq_true_eq] at h
    exact byte_and_50 f h.1 h.2
  exact (and_op_mask 0x8 k f 0xF0).trans (by rw [hf]; rfl)
theorem TableRow.rdrecReserved60 (k : Count) (f : Byte) : TableRow.Statement (.rdrecReserved60 k f) := fun h => by
  have hf : f &&& 0xE0 = 0x60 := by
    simp only [Instr.wellFormed, Bool.and_eq_true, decide_eq_true_eq] at h
    exact byte_and_60 f h.1 h.2
  exact (and_op_mask 0x8 k f 0xE0).trans (by rw [hf]; rfl)
theorem TableRow.rdrecReserved80 (k : Count) (f : Byte) : TableRow.Statement (.rdrecReserved80 k f) := fun h => by
  have hf : f &&& 0x80 = 0x80 := by
    simp only [Instr.wellFormed, decide_eq_true_eq] at h
    exact byte_and_80 f h
  exact (and_op_mask 0x8 k f 0x80).trans (by rw [hf]; rfl)
theorem TableRow.combine (l m : Byte) : TableRow.Statement (.combine l m) := fun _ => combineWord_and l m
theorem TableRow.reservedOpAB (op : BitVec 4) (low : BitVec 28) : TableRow.Statement (.reservedOpAB op low) := fun h => by
  have hop : op &&& 0xE = 0xA := op_and_AB op (by simpa [Instr.wellFormed] using h)
  exact (reservedOp_and op 0xE low).trans (by rw [hop]; rfl)
theorem TableRow.reservedOpCF (op : BitVec 4) (low : BitVec 28) : TableRow.Statement (.reservedOpCF op low) := fun h => by
  have hop : op &&& 0xC = 0xC := op_and_CF op (by simpa [Instr.wellFormed] using h)
  exact (reservedOp_and op 0xC low).trans (by rw [hop]; rfl)

end Sys2Proof.Laws
end

