-- ==== Sys2Proof/Tests/Slice0.lean ====
section
/-!
SUPPORT. Tests and witnesses. Every expected value is the spec's: the words of 30_encoding.md R309 and R313, and the
vectors V1 to V114 of 95_test_vectors.md. A theorem named witness_<Name> shows a concrete input that meets the
hypotheses of the obligation <Name>.
-/

namespace Sys2Proof.Tests

open Sys2Proof.Machine

/-! ## Well-formed commands: the smoke test -/

theorem test_wellFormed_refuses_reserved4C : (Instr.rdrecReserved4C 0 0x4B).wellFormed = false ∧
    (Instr.rdrecReserved4C 0 0x50).wellFormed = false := by decide

theorem test_wellFormed_refuses_reserved50 : (Instr.rdrecReserved50 0 0x4F).wellFormed = false ∧
    (Instr.rdrecReserved50 0 0x60).wellFormed = false := by decide

theorem test_wellFormed_refuses_reserved60 : (Instr.rdrecReserved60 0 0x5F).wellFormed = false ∧
    (Instr.rdrecReserved60 0 0x80).wellFormed = false := by decide

theorem test_wellFormed_refuses_reserved80 : (Instr.rdrecReserved80 0 0x7F).wellFormed = false := by decide

theorem test_wellFormed_refuses_reservedOpAB : (Instr.reservedOpAB 0x9 0).wellFormed = false ∧
    (Instr.reservedOpAB 0xC 0).wellFormed = false := by decide

theorem test_wellFormed_refuses_reservedOpCF : (Instr.reservedOpCF 0xB 0).wellFormed = false := by decide

/-! ## Decoding: words written from the encoding table -/

theorem test_decode_commands :
    ∀ p ∈ ([(0x00000000, .nop), (0x112345AB, .wrbuf 0x12345 0xAB), (0x2FFFFF00, .rdbuf 0xFFFFF),
     (0x30003C00, .wrlen 60), (0x40000000, .rdlen), (0x50000000, .start), (0x60000000, .rdstat),
     (0x70000000, .rdnrec), (0x900034CD, .combine 0xCD 0x34)] : List (HostWord × Instr)),
      decode p.1 = .ok p.2 := by decide

theorem test_decode_rdrec_headers_and_rates :
    ∀ p ∈ ([(0x81234500, .rdrecIndex 0x12345), (0x81234501, .rdrecGroupNum 0x12345),
     (0x81234502, .rdrecGroupMask 0x12345), (0x81234503, .rdrecNumber 0x12345),
     (0x81234504, .rdrecVcfRel 0x12345), (0x81234505, .rdrecVcaRel 0x12345),
     (0x81234506, .rdrecVcfDcy 0x12345), (0x81234507, .rdrecVcaDcy 0x12345),
     (0x81234508, .rdrecVcfAtk 0x12345), (0x81234509, .rdrecVcaAtk 0x12345),
     (0x8123450A, .rdrecVcfSus 0x12345), (0x8123450B, .rdrecVcaSus 0x12345),
     (0x8123450C, .rdrecVcfMod 0x12345), (0x8123450D, .rdrecVcfRes 0x12345),
     (0x8123450E, .rdrecOscPWM 0x12345), (0x8123450F, .rdrecLfoFreq 0x12345)] : List (HostWord × Instr)),
      decode p.1 = .ok p.2 := by decide

theorem test_decode_rdrec_levels_and_detunes :
    ∀ p ∈ ([(0x81234510, .rdrecFmAmnt 0x12345), (0x81234511, .rdrecPwmAmnt 0x12345),
     (0x81234512, .rdrecPortAmt 0x12345), (0x81234513, .rdrecOsc2Detune 0x12345),
     (0x81234514, .rdrecVcfFreq 0x12345), (0x81234515, .rdrecVco2Freq 0x12345),
     (0x81234516, .rdrecVco1Freq 0x12345), (0x81234517, .rdrecLfoTrigPoint 0x12345),
     (0x81234518, .rdrecPedalSustn 0x12345), (0x81234519, .rdrecFmVibRaise 0x12345),
     (0x8123451A, .rdrecPwmVibRaise 0x12345), (0x8123451B, .rdrecFmVibDelay 0x12345),
     (0x8123451C, .rdrecPwmVibDelay 0x12345), (0x8123451D, .rdrecVoiceDetune 0x12345),
     (0x8123451E, .rdrecBendAmount 0x12345)] : List (HostWord × Instr)),
      decode p.1 = .ok p.2 := by decide

theorem test_decode_rdrec_flags_first :
    ∀ p ∈ ([(0x8123451F, .rdrecUnison 0x12345), (0x81234520, .rdrecFilterFM 0x12345),
     (0x81234521, .rdrecOsc2FM 0x12345), (0x81234522, .rdrecOsc2PWM 0x12345),
     (0x81234523, .rdrecOsc1PWM 0x12345), (0x81234524, .rdrecNoise 0x12345),
     (0x81234525, .rdrecFourPole 0x12345), (0x81234526, .rdrecOsc2On 0x12345),
     (0x81234527, .rdrecOsc2Half 0x12345), (0x81234528, .rdrecOsc1On 0x12345),
     (0x81234529, .rdrecKbdTrack 0x12345), (0x8123452A, .rdrecPw1180 0x12345),
     (0x8123452B, .rdrecVco1180 0x12345), (0x8123452C, .rdrecVcaMod 0x12345),
     (0x8123452D, .rdrecFEnv 0x12345), (0x8123452E, .rdrecSync 0x12345)] : List (HostWord × Instr)),
      decode p.1 = .ok p.2 := by decide

theorem test_decode_rdrec_flags_second :
    ∀ p ∈ ([(0x8123452F, .rdrecOsc1FM 0x12345), (0x81234530, .rdrecSpare 0x12345),
     (0x81234531, .rdrecLegato 0x12345), (0x81234532, .rdrecPortBend 0x12345),
     (0x81234533, .rdrecLfoTrack 0x12345), (0x81234534, .rdrecFmDlyInvert 0x12345),
     (0x81234535, .rdrecPortQuant 0x12345), (0x81234536, .rdrecPortMatch 0x12345),
     (0x81234537, .rdrecFlag180 0x12345), (0x81234538, .rdrecFlag90 0x12345),
     (0x81234539, .rdrecPwmDlyInvert 0x12345), (0x8123453A, .rdrecPwmQuant 0x12345),
     (0x8123453B, .rdrecExpoPort 0x12345), (0x8123453C, .rdrecConstPort 0x12345),
     (0x8123453D, .rdrecLfoRateDelay 0x12345), (0x8123453E, .rdrecFmQuant 0x12345)] : List (HostWord × Instr)),
      decode p.1 = .ok p.2 := by decide

theorem test_decode_rdrec_selectors_and_derived :
    ∀ p ∈ ([(0x8123453F, .rdrecOsc2Wave 0x12345), (0x81234540, .rdrecOsc1Wave 0x12345),
     (0x81234541, .rdrecLfoWave 0x12345), (0x81234542, .rdrecTrigLfoWave 0x12345),
     (0x81234543, .rdrecVolume 0x12345), (0x81234544, .rdrecVco2PW 0x12345),
     (0x81234545, .rdrecOsc2WaveTri 0x12345), (0x81234546, .rdrecOsc2WaveSqr 0x12345),
     (0x81234547, .rdrecOsc1WaveTri 0x12345), (0x81234548, .rdrecOsc1WaveSqr 0x12345),
     (0x81234549, .rdrecLfoWaveTri 0x12345), (0x8123454A, .rdrecLfoWaveSqr 0x12345),
     (0x8123454B, .rdrecLfoWaveSnH 0x12345)] : List (HostWord × Instr)),
      decode p.1 = .ok p.2 := by decide

theorem test_decode_reserved_field_ids :
    ∀ p ∈ ([(0x8123454C, .rdrecReserved4C 0x12345 0x4C), (0x8123454F, .rdrecReserved4C 0x12345 0x4F),
     (0x81234550, .rdrecReserved50 0x12345 0x50), (0x8123455F, .rdrecReserved50 0x12345 0x5F),
     (0x81234560, .rdrecReserved60 0x12345 0x60), (0x8123457F, .rdrecReserved60 0x12345 0x7F),
     (0x81234580, .rdrecReserved80 0x12345 0x80), (0x812345FF, .rdrecReserved80 0x12345 0xFF)] :
     List (HostWord × Instr)),
      decode p.1 = .ok p.2 := by decide

theorem test_decode_reserved_operation_codes :
    ∀ p ∈ ([(0xA0000000, .reservedOpAB 0xA 0), (0xB1234567, .reservedOpAB 0xB 0x1234567),
     (0xC0000001, .reservedOpCF 0xC 1), (0xFFFFFFFF, .reservedOpCF 0xF 0xFFFFFFF)] : List (HostWord × Instr)),
      decode p.1 = .ok p.2 := by decide

/-- One must-be-zero bit at each end of each field (R310). -/
theorem test_decode_refuses_must_be_zero_bits :
    decode 0x00000001 = .error (.mustBeZero 0x0) ∧
      decode 0x08000000 = .error (.mustBeZero 0x0) ∧
      decode 0x20000401 = .error (.mustBeZero 0x2) ∧
      decode 0x20000080 = .error (.mustBeZero 0x2) ∧
      decode 0x30003C01 = .error (.mustBeZero 0x3) ∧
      decode 0x40000001 = .error (.mustBeZero 0x4) ∧
      decode 0x48000000 = .error (.mustBeZero 0x4) ∧
      decode 0x50000001 = .error (.mustBeZero 0x5) ∧
      decode 0x60000001 = .error (.mustBeZero 0x6) ∧
      decode 0x70000100 = .error (.mustBeZero 0x7) ∧
      decode 0x9001030A = .error (.mustBeZero 0x9) ∧
      decode 0x98000000 = .error (.mustBeZero 0x9) := by decide

theorem test_decodeTableWord : decodeTableWord 32 0x80000143 = some (.rdrecVolume 1) ∧
    decodeTableWord 32 0x9001030A = none := by decide

/-! ## The combiner and the program decoder -/

/-- V10 to V24. -/
theorem test_combine_vectors :
    combine 0x00 0x00 = 0x00 ∧ combine 0x0F 0x0F = 0xFF ∧ combine 0x0A 0x03 = 0x3A ∧ combine 0x03 0x0A = 0xA3 ∧
      combine 0x0F 0x00 = 0x0F ∧ combine 0x00 0x0F = 0xF0 ∧ combine 0x00 0xF0 = 0x00 ∧ combine 0x00 0xFF = 0xF0 ∧
      combine 0xFF 0x00 = 0xFF ∧ combine 0x10 0x01 = 0x10 ∧ combine 0x80 0x00 = 0x80 ∧ combine 0x50 0x0A = 0xF0 ∧
      combine 0x7F 0x7F = 0xFF ∧ combine 0xFF 0xFF = 0xFF ∧ combine 0x01 0x80 = 0x01 := by decide

/-- The block with the given bytes from offset 0 up, zeros after. -/
def blockOf (bytes : List Byte) : Block := fun j => bytes.getD j.val 0

/-- V30 to V47: the header fields and letters of an index byte. -/
def headerOf (index : Byte) : Nat × Nat × List GroupLetter × Nat :=
  let r := decodeProgram (blockOf [0xF0, 0x10, 0x01, 0x01, index])
  (r.groupNum.toNat, r.groupMask.toNat, groupLetters r.groupMask, r.number.toNat)

theorem test_header_vectors :
    ∀ v ∈ ([(0, 1, 1, [.A], 1), (7, 1, 1, [.A], 8), (8, 2, 2, [.B], 1), (16, 3, 3, [.A, .B], 1),
     (23, 3, 3, [.A, .B], 8), (24, 4, 4, [.C], 1), (63, 8, 8, [.D], 8), (64, 9, 9, [.A, .D], 1),
     (119, 15, 15, [.A, .B, .C, .D], 8), (120, 16, 0, [], 1), (127, 16, 0, [], 8), (128, 17, 1, [.A], 1),
     (247, 31, 15, [.A, .B, .C, .D], 8), (248, 32, 0, [], 1), (255, 32, 0, [], 8)] :
     List (Byte × Nat × Nat × List GroupLetter × Nat)),
      headerOf v.1 = v.2 := by decide

/-- The words that RDREC would answer for the fields 0x00 to 0x4B of a record. -/
def recordWords (r : ProgramRecord) : List Nat := fieldTable.map fun f => (r.word f).toNat

/-- The 60 block bytes of V53. -/
def bytesV53 : List Byte :=
  [0xF0, 0x10, 0x01, 0x01, 0x2A, 0x0B, 0x00, 0x00, 0x03, 0x05, 0x05, 0x0A, 0x07, 0x0F, 0x09, 0x04, 0x0C, 0x09,
   0x0E, 0x0E, 0x00, 0x03, 0x03, 0x08, 0x05, 0x0D, 0x07, 0x02, 0x0A, 0x07, 0x0C, 0x0C, 0x0E, 0x01, 0x01, 0x06,
   0x03, 0x0B, 0x05, 0x00, 0x08, 0x05, 0x0A, 0x0A, 0x0C, 0x0F, 0x0E, 0x04, 0x01, 0x09, 0x03, 0x0E, 0x05, 0x03,
   0x08, 0x08, 0x0A, 0x0D, 0x0C, 0x00]

/-- V3: the volume example, 54. -/
theorem test_volume_V3 : (decodeProgram fun j =>
    if j.val = 29 then 3 else if j.val = 31 then 1 else if j.val = 33 then 2 else 0).volume = 54 := by decide

theorem test_record_V53 : recordWords (decodeProgram (blockOf bytesV53)) =
  [42, 6, 6, 3, 2, 12, 21, 30, 39, 49, 58, 3, 12, 22, 31, 40, 49, 59, 4, 13, 22, 32, 41, 50, 59, 5, 14, 23, 32,
   42, 51, 0, 0, 1, 0, 0, 0, 1, 1, 0, 1, 1, 0, 0, 0, 1, 1, 0, 0, 1, 1, 0, 0, 0, 1, 1, 0, 1, 1, 0, 0, 0, 1, 2, 3,
   6, 5, 49, 44, 0, 1, 1, 1, 0, 1, 1] := by decide +kernel

/-- The 60 block bytes of V54: dirty pairs, and byte 59 ignored. -/
def bytesV54 : List Byte :=
  [0xF0, 0x10, 0x01, 0x01, 0x05, 0xAA, 0x55, 0xAA, 0x55, 0xAA, 0x55, 0xAA, 0x55, 0xAA, 0x55, 0xAA, 0x55, 0xAA,
   0x55, 0xAA, 0x55, 0xAA, 0x55, 0xAA, 0x55, 0xAA, 0x55, 0xAA, 0x55, 0xAA, 0x55, 0xAA, 0x55, 0xAA, 0x55, 0xAA,
   0x55, 0xAA, 0x55, 0xAA, 0x55, 0xAA, 0x55, 0xAA, 0x55, 0xAA, 0x55, 0xAA, 0x55, 0xAA, 0x55, 0xAA, 0x55, 0xAA,
   0x55, 0xAA, 0x55, 0xAA, 0x55, 0x77]

theorem test_record_V54 : recordWords (decodeProgram (blockOf bytesV54)) =
  [5, 1, 1, 6, 62, 62, 62, 62, 62, 62, 62, 62, 62, 62, 62, 62, 62, 62, 62, 62, 62, 62, 62, 62, 62, 62, 62, 62,
   62, 62, 62, 0, 1, 0, 1, 0, 1, 0, 1, 0, 1, 0, 1, 0, 1, 0, 1, 0, 1, 0, 0, 1, 0, 1, 0, 1, 0, 1, 0, 1, 0, 1, 0,
   2, 2, 5, 5, 42, 42, 0, 1, 0, 1, 1, 0, 1] := by decide +kernel

/-- 95_test_vectors.md 3.2: the block whose logical byte `k` is 0xFF and every other pair byte 0. -/
def oneByteBlock (k : Nat) : Block := fun j => if j.val = 5 + 2 * k ∨ j.val = 6 + 2 * k then 0x0F else 0

/-- The fields after the header that are not 0. -/
def nonzeroFields (r : ProgramRecord) : List (Field × Nat) :=
  ((fieldTable.map fun f => (f, (r.word f).toNat)).drop 4).filter fun p => p.2 != 0

/-- The table of 95_test_vectors.md 3.2, rows k = 0 to 26: every bit of the layout. -/
theorem test_every_logical_byte : (List.range 27).map (fun k => nonzeroFields (decodeProgram (oneByteBlock k))) =
  [[(.vcfRel, 63), (.lfoWave, 6), (.lfoWaveSqr, 1), (.lfoWaveSnH, 1)],
   [(.vcaRel, 63), (.unison, 1), (.lfoWave, 1), (.lfoWaveTri, 1)],
   [(.vcfDcy, 63), (.filterFM, 1), (.osc2FM, 1)],
   [(.vcaDcy, 63), (.osc2Wave, 3), (.osc2WaveTri, 1), (.osc2WaveSqr, 1)],
   [(.vcfAtk, 63), (.osc1Wave, 3), (.osc1WaveTri, 1), (.osc1WaveSqr, 1)],
   [(.vcaAtk, 63), (.osc2PWM, 1), (.osc1PWM, 1)],
   [(.vcfSus, 63), (.noise, 1), (.fourPole, 1)],
   [(.vcaSus, 63), (.osc2On, 1), (.osc2Half, 1)],
   [(.vcfMod, 63), (.osc1On, 1), (.kbdTrack, 1)],
   [(.vcfRes, 63), (.pw1180, 1), (.vco1180, 1)],
   [(.oscPWM, 63), (.vcaMod, 1), (.fEnv, 1)],
   [(.lfoFreq, 63), (.sync, 1), (.osc1FM, 1)],
   [(.fmAmnt, 63), (.volume, 48)],
   [(.pwmAmnt, 63), (.volume, 12)],
   [(.portAmt, 63), (.volume, 3)],
   [(.osc2Detune, 63), (.vco2PW, 48)],
   [(.vcfFreq, 63), (.vco2PW, 12)],
   [(.vco2Freq, 63), (.vco2PW, 3)],
   [(.vco1Freq, 63), (.spare, 1), (.legato, 1)],
   [(.lfoTrigPoint, 63), (.trigLfoWave, 6)],
   [(.pedalSustn, 63), (.portBend, 1), (.trigLfoWave, 1)],
   [(.fmVibRaise, 63), (.lfoTrack, 1), (.fmDlyInvert, 1)],
   [(.pwmVibRaise, 63), (.portQuant, 1), (.portMatch, 1)],
   [(.fmVibDelay, 63), (.flag180, 1), (.flag90, 1)],
   [(.pwmVibDelay, 63), (.pwmDlyInvert, 1), (.pwmQuant, 1)],
   [(.voiceDetune, 63), (.expoPort, 1), (.constPort, 1)],
   [(.bendAmount, 63), (.lfoRateDelay, 1), (.fmQuant, 1)]] := by decide +kernel

/-! ## Commands -/

/-- BUF with the given bytes written from address 0 up. -/
def cells (bytes : List Byte) : Memory := (List.range bytes.length).zip bytes

/-- LEN = 60 and the block V53 in BUF, nothing started. -/
def loaded : State := { State.reset with buf := cells bytesV53, len := 60 }

/-- `loaded` after START, before SEQ's step. -/
def busy : State := { loaded with phase := .busy }

/-- The next state of a step, `State.reset` where there is none. -/
def after (o : StepResult) : State :=
  match o with
  | .next t => t
  | _ => State.reset

/-- `busy` after SEQ's step. -/
def finished : State := after (step busy)

/-- What the host sees of one command word: the response, and the status word after it. -/
def answer (s : State) (w : Nat) : Option HostWord × HostWord :=
  match step (s.withFetchWord 32 w) with
  | .next t => (t.rsp, statusWord t)
  | _ => (none, 0)

/-- V80 to V95 and V109 to V111: one command from reset. -/
theorem test_commands_from_reset :
    ∀ v ∈ ([(0x00000000, 0, 0), (0x00000001, 0, 0x100), (0x10000410, 0, 0), (0x101DFFAB, 0, 0),
     (0x101E00AB, 0, 0x400), (0x20000400, 0, 0x1000), (0x20000401, 0, 0x100), (0x301E0000, 0, 0),
     (0x301E0100, 0, 0x400), (0x30003B00, 0, 0), (0x40000000, 0, 0), (0x50000000, 0, 0xF), (0x60000000, 0, 0),
     (0x70000000, 0, 0), (0x80000000, 0, 0x800), (0x9001030A, 0, 0x100), (0x9000030A, 0x3A, 0),
     (0xA0000000, 0, 0x100), (0xFFFFFFFF, 0, 0x100)] : List (Nat × HostWord × HostWord)),
      answer State.reset v.1 = (some v.2.1, v.2.2) := by decide +kernel

/-- V101 to V108: one command while BUSY. The byte at 4 is 0x2A here (V53). -/
theorem test_commands_while_busy :
    ∀ v ∈ ([(0x10000410, 0, 0x201), (0x101E0010, 0, 0x201), (0x30007800, 0, 0x201), (0x50000000, 0, 0x201),
     (0x20000400, 0x2A, 1), (0x40000000, 60, 1), (0x70000000, 0, 1), (0x80000000, 0, 0x801),
     (0x9000030A, 0x3A, 1)] : List (Nat × HostWord × HostWord)),
      answer busy v.1 = (some v.2.1, v.2.2) := by decide +kernel

/-- V86 and V96 to V100: one command after DONE, on the record V53. -/
theorem test_commands_after_done :
    ∀ v ∈ ([(0x20000000, 0xF0, 2), (0x70000000, 1, 2), (0x80000000, 42, 2), (0x80000002, 6, 2), (0x80000003, 3, 2),
     (0x80000043, 49, 2), (0x80000100, 0, 0x802), (0x8000004B, 1, 2), (0x8000004C, 0, 0x102),
     (0x8000005F, 0, 0x102), (0x80000060, 0, 0x102), (0x800000FF, 0, 0x102), (0x60000000, 2, 2)] :
     List (Nat × HostWord × HostWord)),
      answer finished v.1 = (some v.2.1, v.2.2) := by decide +kernel

/-- STATE = DONE with V53 the one record. -/
def doneV53 : State :=
  { loaded with phase := .done, nrec := 1, records := [(0, decodeProgram (blockOf bytesV53))] }

/-- RDREC 0 of each field after DONE: the table of V53. -/
theorem test_rdrec_every_field :
    (List.range 76).map (fun f => ((answer doneV53 (0x80000000 + f)).1.getD 0).toNat) =
  [42, 6, 6, 3, 2, 12, 21, 30, 39, 49, 58, 3, 12, 22, 31, 40, 49, 59, 4, 13, 22, 32, 41, 50, 59, 5, 14, 23, 32,
   42, 51, 0, 0, 1, 0, 0, 0, 1, 1, 0, 1, 1, 0, 0, 0, 1, 1, 0, 0, 1, 1, 0, 0, 0, 1, 1, 0, 1, 1, 0, 0, 0, 1, 2, 3,
   6, 5, 49, 44, 0, 1, 1, 1, 0, 1, 1] := by decide +kernel

/-- V82 and V83: the byte and its BUF_VALID bit; V88: LEN. -/
theorem test_wrbuf_and_wrlen_write :
    (after (step (State.reset.withFetchWord 32 0x10000410))).buf = [(4, 0x10)] ∧
      (after (step (State.reset.withFetchWord 32 0x101DFFAB))).buf = [(7679, 0xAB)] ∧
      (after (step (State.reset.withFetchWord 32 0x301E0000))).len = 7680 := by decide

/-- V63, V64, V70 and V73: START on a length or a magic that is wrong; V65: on a valid bank; R601 with an unwritten
magic byte. -/
theorem test_start_vectors :
    (answer { loaded with len := 4 } 0x50000000).2 = 0x7 ∧ (answer { loaded with len := 59 } 0x50000000).2 = 0x7 ∧
      (answer { loaded with buf := cells [0xF0, 0x10, 0x01, 0x02] } 0x50000000).2 = 0xB ∧
      (answer { loaded with buf := cells [0, 0, 0, 0], len := 59 } 0x50000000).2 = 0xF ∧
      (answer loaded 0x50000000).2 = 0x1 ∧
      (answer { loaded with buf := cells [0xF0, 0x10, 0x01] } 0x50000000).2 = 0x1000 := by decide +kernel

/-- V65: the SEQ step of a one-block bank. -/
theorem test_seq_step : statusWord finished = 2 ∧ finished.nrec = 1 ∧
    (finished.record 0).index = 42 ∧ (finished.record 0).volume = 49 ∧ (finished.record 0).bendAmount = 51 := by
  decide +kernel

/-- V77: an unwritten byte of the block; V76: byte 59 need not be written. -/
theorem test_seq_step_unwritten :
    statusWord (after (step { busy with buf := cells (bytesV53.take 58) })) = 0x1001 ∧
      (after (step { busy with buf := cells (bytesV53.take 58) })).nrec = 0 ∧
      statusWord (after (step { busy with buf := cells (bytesV53.take 59) })) = 2 := by decide +kernel

/-- A block in fault-stop after a write while BUSY (P5). -/
def faulted : State := { busy with fault := 0b00010 }

/-- V112 to V114, with BUSY_VIOLATION set: refused commands, RDSTAT served, malformed RDSTAT, reset. -/
theorem test_fault_stop :
    answer faulted 0x100000F0 = (some 0, 0x201) ∧ answer faulted 0x9000030A = (some 0, 0x201) ∧
      answer faulted 0x60000000 = (some 0x201, 0x201) ∧ answer faulted 0x60000001 = (some 0, 0x301) ∧
      step faulted = .next faulted ∧
      statusWord (after (step { faulted with pending := [.reset] })) = 0 := by
  refine ⟨by decide, by decide, by decide, by decide, rfl, by decide⟩

theorem test_reference_configuration : Config.reference.valid = true ∧ Config.reference.recCap = 128 := by decide

/-! ## The assembler -/

theorem test_assemble_commands :
    assembleLine "WRBUF 4, 0x10 ; index" = .ok [.issue 0x10000410] ∧
      assembleLine "COMBINE 0x0A, 0x03" = .ok [.issue 0x9000030A] ∧ assembleLine "WAITIDLE" = .ok [.waitIdle] ∧
      digitValue 'f' = some 15 ∧ digitValue 'G' = none ∧
      assembleLine "WRLEN 1048576" = .error .operandTooWide ∧ assembleLine "WRBUF 4" = .error .operandCount :=
  ⟨by decide +kernel, by decide +kernel, by decide +kernel, by decide +kernel, by decide +kernel, by decide +kernel,
    by decide +kernel⟩

theorem test_assemble_field_name : assembleLine "RDREC 1, volume" = .ok [.issue 0x80000143] := by decide +kernel

theorem test_assemble_macros :
    assembleLine "LOADBUF 0, 0xF0, 0x10" = .ok [.issue 0x100000F0, .issue 0x10000110] ∧
      assembleLine "FILLBUF 5, 2, 15" = .ok [.issue 0x1000050F, .issue 0x1000060F] :=
  ⟨by decide +kernel, by decide +kernel⟩

/-! ## Witnesses: inputs that meet the hypotheses of the obligations -/

theorem witness_DecodeOfEncode : (Instr.rdrecReserved4C 0xFFFFF 0x4F).wellFormed = true ∧
    (Instr.wrbuf 0xFFFFF 0xFF).wellFormed = true ∧ (Instr.reservedOpCF 0xF 0xFFFFFFF).wellFormed = true := by decide

theorem witness_EncodeOfDecode : decode 0x8000005F = .ok (.rdrecReserved50 0 0x5F) := by decide

/-- A word of each kind that the decoder rejects, and the words beside them that it takes. -/
theorem witness_DecodeRejectsMustBeZeroWords : decode 0x08000000 = .error (.mustBeZero 0x0) ∧
    decode 0x20000080 = .error (.mustBeZero 0x2) ∧ decode 0x90010000 = .error (.mustBeZero 0x9) ∧
    decode 0x20000100 = .ok (.rdbuf 1) ∧ decode 0x9000FFFF = .ok (.combine 0xFF 0xFF) := by decide

theorem witness_CombineLaws : (0x0F : Byte).toNat < 0x10 := by decide

/-- Two blocks that differ at 0 and at 59 alone. -/
theorem witness_DecodeReadsOnlyFiftyFiveBytes :
    blockOf bytesV54 ≠ (fun j => if j.val = 0 ∨ j.val = 59 then 0x33 else blockOf bytesV54 j) ∧
      ∀ j : Fin 60, 4 ≤ j.val → j.val ≤ 58 →
        blockOf bytesV54 j = (fun j => if j.val = 0 ∨ j.val = 59 then 0x33 else blockOf bytesV54 j : Block) j := by
  refine ⟨fun h => absurd (congrFun h 0) (by decide), by decide⟩

/-- Two blocks whose first pairs differ, with the logical byte 0x10 in both (V19). -/
theorem witness_EveryLogicalBitIsKept :
    blockOf [0, 0, 0, 0, 7, 0x10, 0x00] ≠ blockOf [0, 0, 0, 0, 7, 0x10, 0x01] ∧
      decodeProgram (blockOf [0, 0, 0, 0, 7, 0x10, 0x00]) = decodeProgram (blockOf [0, 0, 0, 0, 7, 0x10, 0x01]) := by
  refine ⟨fun h => absurd (congrFun h 6) (by decide), by decide +kernel⟩

theorem witness_NopCommand : State.reset.fault = 0 ∧ cmdOp 0x00000000 = 0x0 ∧ cmdLow 0x00000000 = 0 ∧
    cmdOp 0x08000000 = 0x0 ∧ cmdLow 0x08000000 ≠ 0 := by decide

/-- BUSY; the first address beyond BUF_CAP; the last address; a word with OP 1. -/
theorem witness_WrbufCommand : busy.fault = 0 ∧ busy.phase = .busy ∧ loaded.fault = 0 ∧ loaded.phase ≠ .busy ∧
    loaded.config.bufCap ≤ (7680 : Count).toNat ∧ ¬ loaded.config.bufCap ≤ (7679 : Count).toNat ∧
    cmdOp 0x101DFFAB = 0x1 := by decide

theorem witness_RdbufCommand : loaded.fault = 0 ∧ loaded.config.bufCap ≤ (7680 : Count).toNat ∧
    ¬ loaded.config.bufCap ≤ (7679 : Count).toNat ∧ loaded.buf.read 7679 = none ∧ loaded.buf.read 59 = some 0 ∧
    cmdOp 0x20000400 = 0x2 ∧ cmdD 0x20000400 = 0 ∧ cmdOp 0x20000401 = 0x2 ∧ cmdD 0x20000401 ≠ 0 := by decide

theorem witness_WrlenCommand : busy.fault = 0 ∧ busy.phase = .busy ∧ loaded.fault = 0 ∧ loaded.phase ≠ .busy ∧
    loaded.config.bufCap < (7681 : Count).toNat ∧ ¬ loaded.config.bufCap < (7680 : Count).toNat ∧
    cmdOp 0x301E0000 = 0x3 ∧ cmdD 0x301E0000 = 0 ∧ cmdOp 0x301E0001 = 0x3 ∧ cmdD 0x301E0001 ≠ 0 := by decide

theorem witness_RegisterReadCommands : loaded.fault = 0 ∧ cmdOp 0x40000000 = 0x4 ∧ cmdLow 0x40000000 = 0 ∧
    cmdOp 0x48000000 = 0x4 ∧ cmdLow 0x48000000 ≠ 0 ∧ cmdOp 0x70000000 = 0x7 ∧ cmdLow 0x70000000 = 0 ∧
    cmdOp 0x70000001 = 0x7 ∧ cmdLow 0x70000001 ≠ 0 := by decide

theorem witness_RdstatCommand : cmdOp 0x60000000 = 0x6 ∧ cmdLow 0x60000000 = 0 ∧ cmdOp 0x60000001 = 0x6 ∧
    cmdLow 0x60000001 ≠ 0 := by decide

/-- The last readable record, the first that is not, a STATE that is not DONE, and the field ids at either side of the
last legal one. -/
theorem witness_RdrecCommands : finished.fault = 0 ∧
    ¬ (finished.phase ≠ .done ∨ finished.nrec.toNat ≤ (0 : Count).toNat) ∧ finished.nrec.toNat ≤ (1 : Count).toNat ∧
    busy.fault = 0 ∧ busy.phase ≠ .done ∧ cmdOp 0x8000004C = 0x8 ∧ 0x4B < (cmdD 0x8000004C).toNat ∧
    cmdOp 0x8000004B = 0x8 ∧ Field.lfoWaveSnH.id = cmdD 0x8000004B := by decide +kernel

theorem witness_ReservedEncodings : State.reset.fault = 0 ∧ 0xA ≤ (cmdOp 0xA0000000).toNat ∧
    cmdOp 0x8000004C = 0x8 ∧ 0x4C ≤ (cmdD 0x8000004C).toNat := by decide

theorem witness_CombineCommand : busy.fault = 0 ∧ cmdOp 0x9000FFFF = 0x9 ∧ cmdHigh 0x9000FFFF = 0 ∧
    cmdOp 0x9001030A = 0x9 ∧ cmdHigh 0x9001030A ≠ 0 := by decide

/-- LEN 3; LEN 4 with an unwritten magic byte; LEN 4 with the magic. -/
theorem witness_FormatCheck : 4 ≤ loaded.config.bufCap ∧ State.len { loaded with len := 3 } = 3 ∧
    (3 : Count).toNat < 4 ∧ 4 ≤ (4 : Count).toNat ∧
    (∃ j, j < 4 ∧ Memory.read (cells [0xF0, 0x10, 0x01]) j = none) ∧ loaded.buf.read 0 = some 0xF0 ∧
    loaded.buf.read 1 = some 0x10 ∧ loaded.buf.read 2 = some 0x01 ∧ loaded.buf.read 3 = some 0x01 := by
  refine ⟨by decide, by decide, by decide, by decide, ⟨3, by decide, by decide⟩, by decide, by decide, by decide,
    by decide⟩

theorem witness_StartCommand : busy.fault = 0 ∧ busy.phase = .busy ∧ loaded.fault = 0 ∧ loaded.phase ≠ .busy ∧
    fmtCheck loaded = .ok 0 ∧ fmtCheck { loaded with len := 59 } = .ok 1 ∧
    fmtCheck { loaded with buf := [] } = .error .uninitRead ∧ cmdOp 0x50000000 = 0x5 ∧ cmdLow 0x50000000 = 0 ∧
    cmdOp 0x50000001 = 0x5 ∧ cmdLow 0x50000001 ≠ 0 := by decide

/-- Every byte that SEQ reads of `busy` is written. -/
theorem busy_blocks_written : BlocksWritten busy := by
  intro i j hi h4 h58
  have h0 : i = 0 := by
    have : busy.len.toNat / 60 = 1 := by decide
    omega
  subst h0
  have all : ∀ j, j < 59 → busy.bufValid (60 * 0 + j) = true := by decide +kernel
  exact all j (by omega)

/-- `busy` with the last byte that SEQ reads, offset 58, unwritten. -/
def busyGap : State := { busy with buf := cells (bytesV53.take 58) }

theorem witness_SeqStepDecodesOneBlock : RegistersConsistent busy ∧ busy.phase = .busy ∧ busy.fault = 0 ∧
    (∀ j, 4 ≤ j → j ≤ 58 → busy.bufValid (60 * busy.nrec.toNat + j) = true) ∧ RegistersConsistent busyGap ∧
    (∃ j, 4 ≤ j ∧ j ≤ 58 ∧ busyGap.bufValid (60 * busyGap.nrec.toNat + j) = false) ∧ loaded.phase ≠ .busy ∧
    faulted.fault ≠ 0 := by
  refine ⟨by decide, by decide, by decide, fun j h4 h58 => busy_blocks_written 0 j (by decide) h4 h58, by decide,
    ⟨58, by decide, by decide, by decide +kernel⟩, by decide, by decide⟩

theorem witness_FaultStopRefusesAllButRdstat : faulted.fault ≠ 0 ∧ Instr.nop ≠ .rdstat ∧ cmdOp 0x9000030A ≠ 0x6 ∧
    cmdOp 0x60000001 = 0x6 ∧ cmdLow 0x60000001 ≠ 0 ∧ step faulted = .next faulted ∧
    State.fault { faulted with pending := [.reset] } ≠ 0 ∧
    (State.pending { faulted with pending := [.reset] }).head? = some .reset := by
  refine ⟨by decide, by decide, by decide, by decide, by decide, rfl, by decide, by decide⟩

theorem witness_FaultEntryIsPrecise :
    commandStep 0x10000410 busy = .next { busy with fault := 0b00010, rsp := some 0 } ∧ (0b00010 : BitVec 5) ≠ busy.fault ∧
      seqTurn busyGap = .next { busyGap with fault := 0b10000, rsp := none } ∧ (0b10000 : BitVec 5) ≠ busyGap.fault := by
  refine ⟨rfl, by decide, rfl, by decide⟩

/-- A reserved field id and the last legal one. -/
theorem witness_IllegalCmdExactly : State.reset.fault = 0 ∧
    commandStep 0x8000004C State.reset = .next (after (commandStep 0x8000004C State.reset)) ∧
    (after (commandStep 0x8000004C State.reset)).fault = 0b00001 ∧
    commandStep 0x8000004B State.reset = .next (after (commandStep 0x8000004B State.reset)) := by
  refine ⟨by decide, rfl, by decide, rfl⟩

theorem witness_BusyViolationExactly : busy.fault = 0 ∧
    exec (.wrlen 120) busy = .next (after (exec (.wrlen 120) busy)) ∧
    (after (exec (.wrlen 120) busy)).fault = 0b00010 ∧ exec .rdlen busy = .next (after (exec .rdlen busy)) := by
  refine ⟨by decide, rfl, by decide, rfl⟩

theorem witness_RangeExactly : RegistersConsistent loaded ∧ loaded.fault = 0 ∧
    exec (.wrlen 7681) loaded = .next (after (exec (.wrlen 7681) loaded)) ∧
    (after (exec (.wrlen 7681) loaded)).fault = 0b00100 ∧
    exec (.wrlen 7680) loaded = .next (after (exec (.wrlen 7680) loaded)) ∧ RegistersConsistent busy ∧
    busy.fault = 0 ∧ seqTurn busy = .next (after (seqTurn busy)) := by
  refine ⟨by decide, by decide, rfl, by decide, rfl, by decide, by decide, rfl⟩

theorem witness_RecAccessExactly : finished.fault = 0 ∧
    exec (.rdrecIndex 1) finished = .next (after (exec (.rdrecIndex 1) finished)) ∧
    (after (exec (.rdrecIndex 1) finished)).fault = 0b01000 ∧
    exec (.rdrecIndex 0) finished = .next (after (exec (.rdrecIndex 0) finished)) ∧
    (after (exec (.rdrecIndex 0) finished)).fault = 0 := by
  refine ⟨by decide +kernel, rfl, by decide +kernel, rfl, by decide +kernel⟩

theorem witness_UninitReadExactly : RegistersConsistent loaded ∧ loaded.fault = 0 ∧
    exec (.rdbuf 60) loaded = .next (after (exec (.rdbuf 60) loaded)) ∧
    (after (exec (.rdbuf 60) loaded)).fault = 0b10000 ∧
    (after (exec .start { loaded with buf := [], len := 4 })).fault = 0b10000 ∧ RegistersConsistent busyGap ∧
    busyGap.fault = 0 ∧ seqTurn busyGap = .next (after (seqTurn busyGap)) ∧
    (after (seqTurn busyGap)).fault = 0b10000 := by
  refine ⟨by decide, by decide, rfl, by decide, by decide, by decide, by decide, rfl, by decide +kernel⟩

theorem witness_OneFaultBitAtATime : busy.fault = 0 ∧ step busy = .next finished ∧
    (cmdOp 0x00000001 = 0x0 ∧ cmdLow 0x00000001 ≠ 0) ∧
    commandStep 0x00000001 busy = .next (after (commandStep 0x00000001 busy)) ∧
    (cmdOp 0x20000080 = 0x2 ∧ cmdD 0x20000080 ≠ 0) ∧
    commandStep 0x20000080 busy = .next (after (commandStep 0x20000080 busy)) ∧
    (cmdOp 0x90010000 = 0x9 ∧ cmdHigh 0x90010000 ≠ 0) ∧
    commandStep 0x90010000 busy = .next (after (commandStep 0x90010000 busy)) ∧
    0xA ≤ (cmdOp 0xA0000000).toNat ∧
    commandStep 0xA0000000 busy = .next (after (commandStep 0xA0000000 busy)) ∧
    (cmdOp 0x8000004C = 0x8 ∧ 0x4C ≤ (cmdD 0x8000004C).toNat) ∧
    commandStep 0x8000004C busy = .next (after (commandStep 0x8000004C busy)) ∧ busy.phase = .busy ∧
    busy.config.bufCap ≤ (7680 : Count).toNat ∧
    exec (.wrbuf 7680 0) busy = .next (after (exec (.wrbuf 7680 0) busy)) := by
  refine ⟨by decide, rfl, by decide, rfl, by decide, rfl, by decide, rfl, by decide, rfl, by decide, rfl, by decide,
    by decide, rfl⟩

theorem witness_CommandsFrame : exec (.wrbuf 4 0x10) loaded = .next (after (exec (.wrbuf 4 0x10) loaded)) ∧
    (after (exec (.wrbuf 4 0x10) loaded)).buf ≠ loaded.buf ∧
    exec (.wrlen 120) loaded = .next (after (exec (.wrlen 120) loaded)) ∧
    (after (exec (.wrlen 120) loaded)).len ≠ loaded.len ∧ exec .start loaded = .next (after (exec .start loaded)) ∧
    (after (exec .start loaded)).phase ≠ loaded.phase := by
  refine ⟨rfl, by decide, rfl, by decide, rfl, by decide⟩

theorem witness_ReadCommandsAreIdempotent : exec (.rdbuf 4) loaded = .next (after (exec (.rdbuf 4) loaded)) ∧
    (after (exec (.rdbuf 4) loaded)).fault = loaded.fault ∧ Instr.rdrecIndex 0 = rdrecInstr 0 .index := by
  refine ⟨rfl, by decide, rfl⟩

theorem witness_StepRunsTheDecodedCommand :
    State.pending { loaded with pending := [.command 0x10000410] } = .command 0x10000410 :: [] ∧
      decode 0x10000410 = .ok (.wrbuf 4 0x10) ∧ decode 0x60000001 = .error (.mustBeZero 6) ∧
      State.pending { faulted with pending := [.command 0x60000001] } = .command 0x60000001 :: [] := by decide

theorem witness_StepTakesSeqAndResetEvents : State.pending { busy with pending := [.seq] } = .seq :: [] ∧
    State.pending { busy with pending := [.reset] } = .reset :: [] ∧ busy.pending = [] := by decide

theorem witness_StepTakesEventsInOrder :
    step { loaded with pending := [.command 0, .seq] } = .next { loaded with pending := [.seq], rsp := some 0 } := rfl

/-- A turn of SEQ from BUSY, and a second START from DONE. -/
theorem witness_DataStableDuringAndAfterADecode : step busy = .next finished ∧ busy.pending.head? ≠ some .reset ∧
    busy.phase = .busy ∧
    step (finished.issue 0x50000000) = .next (after (step (finished.issue 0x50000000))) ∧
    (finished.issue 0x50000000).pending.head? ≠ some .reset ∧ (finished.issue 0x50000000).phase = .done := by
  refine ⟨rfl, by decide, by decide, rfl, by decide +kernel, by decide +kernel⟩

theorem witness_DoneOnlyByTheLastSeqStep : step busy = .next finished ∧ busy.phase ≠ .done ∧
    finished.phase = .done := by
  refine ⟨rfl, by decide, by decide +kernel⟩

theorem witness_ResetClearsTheBlock : State.pending { faulted with pending := [.reset] } = .reset :: [] ∧
    step { faulted with pending := [.reset] } = .next State.reset := ⟨by decide, rfl⟩

theorem witness_StoresCanonicalKept : StoresCanonical busy ∧ step busy = .next finished := by
  refine ⟨by decide, rfl⟩

theorem witness_RegistersConsistentKept : RegistersConsistent busy ∧ step busy = .next finished := by
  refine ⟨by decide, rfl⟩

theorem witness_RecordsWrittenKept : RecordsWritten busy ∧ step busy = .next finished := by
  refine ⟨fun i hi => absurd hi (by simp [busy, loaded, State.reset, State.resetWith]), rfl⟩

theorem witness_FaultShapeKept : FaultShape busyGap ∧ step busyGap = .next (after (step busyGap)) := by
  refine ⟨.inl (by decide), rfl⟩

theorem witness_ConsistentStatesNeverStop : RegistersConsistent busy ∧ RegistersConsistent State.reset := by decide

theorem witness_BankDecodeFromBusy : RegistersConsistent busy ∧ busy.phase = .busy ∧ busy.fault = 0 ∧
    busy.pending = [] ∧ BlocksWritten busy :=
  ⟨by decide, by decide, by decide, by decide, busy_blocks_written⟩

/-- `loaded` with START coming. -/
def starting : State := { loaded with pending := [.command 0x50000000] }

theorem witness_BankDecodeFromStart : starting.phase ≠ .busy ∧ starting.fault = 0 ∧
    starting.len.toNat ≤ starting.config.bufCap ∧ BankHeaderGood starting ∧ BlocksWritten starting ∧
    starting.pending = [.command 0x50000000] :=
  ⟨by decide, by decide, by decide, by decide, busy_blocks_written, by decide⟩

theorem witness_SecondDecodeIsIdentical : starting.phase ≠ .busy ∧ starting.fault = 0 ∧
    starting.len.toNat ≤ starting.config.bufCap ∧ BankHeaderGood starting ∧ BlocksWritten starting ∧
    starting.pending = [.command 0x50000000] := witness_BankDecodeFromStart

/-- `starting` with another STATE, another byte 59 and a record left from before. -/
def startingOther : State :=
  { starting with
    buf := cells (bytesV53.take 59 ++ [0x77]), phase := .done, nrec := 1, records := [(0, default)] }

theorem witness_BankDecodeReadsOnlyItsBytes : starting ≠ startingOther ∧ starting.config = startingOther.config ∧
    starting.len = startingOther.len ∧ starting.len.toNat ≤ starting.config.bufCap ∧ starting.phase ≠ .busy ∧
    startingOther.phase ≠ .busy ∧ starting.fault = 0 ∧ startingOther.fault = 0 ∧
    starting.pending = [.command 0x50000000] ∧ startingOther.pending = [.command 0x50000000] ∧
    (∀ a, a < 4 → starting.buf.read a = startingOther.buf.read a) ∧
    (∀ i j, i < starting.len.toNat / 60 → 4 ≤ j → j ≤ 58 →
      starting.buf.read (60 * i + j) = startingOther.buf.read (60 * i + j)) ∧
    fmtCheck starting = .ok 0 ∧ core.run 1 starting = .next (after (step starting)) := by
  refine ⟨by decide +kernel, by decide, by decide, by decide, by decide, by decide, by decide, by decide, by decide,
    by decide, by decide, fun i j hi h4 h58 => ?_, by decide, rfl⟩
  have h0 : i = 0 := by
    have : starting.len.toNat / 60 = 1 := by decide
    omega
  subst h0
  have all : ∀ j, j < 59 → starting.buf.read (60 * 0 + j) = startingOther.buf.read (60 * 0 + j) := by decide +kernel
  exact all j (by omega)

theorem witness_NoPartialDecode : State.phase { starting with len := 59 } ≠ .busy ∧
    State.fault { starting with len := 59 } = 0 ∧
    State.pending { starting with len := 59 } = [.command 0x50000000] ∧
    fmtCheck { starting with len := 59 } = .ok 1 ∧ (1 : BitVec 2) ≠ 0 ∧ busy.phase = .busy ∧
    step busy = .next finished := by
  refine ⟨by decide, by decide, by decide, by decide, by decide, by decide, rfl⟩

/-- The last two addresses of the address field. -/
theorem witness_MacrosExpandAsWritten : 1048574 + ([0xF0, 0x10] : List Byte).length ≤ 2 ^ 20 := by decide

end Sys2Proof.Tests
end

section
/-!
PROOFS, family 10_state.md. One principle for the invariants that a single state shows: each is kept by every step as
soon as it holds at reset and every guarded state update keeps it.
-/

namespace Sys2Proof.Machine

/-! ## Facts about the status bits, the format check and the command effects -/

/-- Setting a bit of FAULT clears none (10_state.md R110). -/
theorem fault_and_raiseFault (s : State) (b : FaultBit) : s.fault &&& (s.raiseFault b).fault = s.fault := by
  ext i hi
  cases hbit : s.fault[i] <;> simp [hbit]

/-- FMT_CAUSE is 0 exactly when neither cause is present (R601). -/
theorem fmtCauseBits_eq_zero {lenBad magicBad : Bool} :
    fmtCauseBits lenBad magicBad = 0 ↔ lenBad = false ∧ magicBad = false := by
  cases lenBad <;> cases magicBad <;> decide

theorem lenBad_eq_false {s : State} : lenBad s = false ↔ s.len.toNat % 60 = 0 ∧ 60 ≤ s.len.toNat := by
  simp only [lenBad, Bool.or_eq_false_iff, beq_eq_false_iff_ne, bne_eq_false_iff_eq]
  omega

/-- A format check that finds no cause has found LEN a positive multiple of 60. -/
theorem len_of_fmtCheck_zero {s : State} (h : fmtCheck s = .ok 0) : s.len.toNat % 60 = 0 ∧ 60 ≤ s.len.toNat := by
  have bits : ∀ m, (.ok (fmtCauseBits (lenBad s) m) : Except FaultBit (BitVec 2)) = .ok 0 → lenBad s = false :=
    fun m hm => (fmtCauseBits_eq_zero.1 (Except.ok.inj hm)).1
  refine lenBad_eq_false.1 ?_
  unfold fmtCheck at h
  split at h
  · exact bits _ h
  · split at h
    · cases h
    · exact bits _ h

/-! ## The reset state -/

theorem storesCanonical_resetWith (c : Config) : StoresCanonical (State.resetWith c) := ⟨rfl, rfl, rfl, rfl⟩

theorem registersConsistent_resetWith (c : Config) : RegistersConsistent (State.resetWith c) := by
  simp [RegistersConsistent]

theorem recordsWritten_resetWith (c : Config) : RecordsWritten (State.resetWith c) :=
  fun i hi => absurd hi (by simp)

theorem faultShape_resetWith (c : Config) : FaultShape (State.resetWith c) := .inl rfl

/-- Settles O49: each invariant holds at reset, where the stores are empty and the registers 0. -/
theorem resetMeetsTheInvariants : Obligations.ResetMeetsTheInvariants := fun c =>
  ⟨storesCanonical_resetWith c, registersConsistent_resetWith c, recordsWritten_resetWith c, faultShape_resetWith c⟩

/-! ## Invariants of one state -/

/-- `P` holds at reset and is kept by each state update under the conditions in which a step makes it. -/
structure KeptByUpdates (P : State → Prop) : Prop where
  /-- R900. -/
  reset : ∀ c, P (State.resetWith c)
  /-- An event is taken off the list (log 1). -/
  setPending : ∀ s l, P s → P (s.setPending l)
  /-- R311. -/
  respond : ∀ s w, P s → P (s.respond w)
  /-- R808, R809: a second fault bit is ILLEGAL_CMD. -/
  raiseFault : ∀ s b, P s → s.fault = 0 ∨ b = .illegalCmd → P (s.raiseFault b)
  /-- R808 in a SEQ step. -/
  raiseSeqFault : ∀ s b, P s → s.phase = .busy → s.fault = 0 → P (s.raiseSeqFault b)
  /-- R603. -/
  storeRecord : ∀ s r, P s → s.phase = .busy → s.nrec.toNat < s.config.recCap → P (s.storeRecord r)
  /-- WRBUF (R702). -/
  writeByte : ∀ s a d, P s → s.phase ≠ .busy → a < s.config.bufCap → P (s.setBuf (s.buf.write a d))
  /-- WRLEN (R704). -/
  setLen : ∀ s n, P s → s.phase ≠ .busy → n.toNat ≤ s.config.bufCap → P (s.setLen n)
  /-- START (R602). -/
  beginDecode : ∀ s cause, P s → s.phase ≠ .busy → fmtCheck s = .ok cause → P (s.beginDecode cause)

theorem KeptByUpdates.commandEffect {P : State → Prop} (k : KeptByUpdates P) {s t : State} {i : Instr}
    (h : CommandEffect s i t) (hs : P s) : P t := by
  cases h with
  | answers _ w => exact k.respond _ w hs
  | writesByte a d hbusy hcap => exact k.respond _ _ (k.writeByte s _ d hs hbusy hcap)
  | setsLength n hbusy hcap => exact k.respond _ _ (k.setLen s n hs hbusy hcap)
  | beginsDecode cause hbusy hcheck => exact k.respond _ _ (k.beginDecode s cause hs hbusy hcheck)

/-- Every step is made of the updates, so it keeps what they keep. -/
theorem KeptByUpdates.step {P : State → Prop} (k : KeptByUpdates P) {s t : State} (hs : P s)
    (h : step s = .next t) : P t := by
  have hu : P (s.setPending s.pending.tail) := k.setPending s _ hs
  obtain rfl | ⟨hbusy, hfault, b, -, rfl⟩ | ⟨hbusy, -, blk, -, hcap, rfl⟩ | ⟨-, rfl⟩ | ⟨-, rfl⟩ | ⟨b, hfault, rfl⟩ |
    ⟨w, i, -, -, -, heffect⟩ := step_effects h rfl
  · exact hu
  · exact k.raiseSeqFault _ b hu hbusy hfault
  · exact k.storeRecord _ _ hu hbusy hcap
  · exact k.setPending _ _ (k.reset s.config)
  · exact k.respond _ 0 hu
  · exact k.raiseFault _ b hu hfault
  · exact k.commandEffect heffect hu

/-! ## The stores -/

/-- WRBUF alone writes BUF, at an address below BUF_CAP, and SEQ alone writes REC, at an entry below REC_CAP. -/
theorem storesCanonical_keptByUpdates : KeptByUpdates StoresCanonical where
  reset := storesCanonical_resetWith
  setPending _ _ hs := hs
  respond _ _ hs := hs
  raiseFault _ _ hs _ := hs
  raiseSeqFault _ _ hs _ _ := hs
  storeRecord s r := fun ⟨hbuf, hbufCap, hrec, hrecCap⟩ _ hlt =>
    ⟨hbuf, hbufCap, Store.wf_write s.records _ r hrec,
      Store.all_write (fun k => decide (k < s.config.recCap)) s.records _ r hrecCap (decide_eq_true hlt)⟩
  writeByte s a d := fun ⟨hbuf, hbufCap, hrec, hrecCap⟩ _ hlt =>
    ⟨Memory.wf_write s.buf a d hbuf,
      Store.all_write (fun k => decide (k < s.config.bufCap)) s.buf a d hbufCap (decide_eq_true hlt), hrec, hrecCap⟩
  setLen _ _ hs _ _ := hs
  beginDecode _ _ hs _ _ := hs

/-- Settles O50: every state update keeps the stores canonical. -/
theorem storesCanonicalKept : Obligations.StoresCanonicalKept := fun _ _ hs h =>
  storesCanonical_keptByUpdates.step hs h

/-! ## The registers -/

theorem registersConsistent_of_busy {s : State} (hp : s.phase = .busy) (hlen : s.len.toNat ≤ s.config.bufCap)
    (h : s.fmtCause = 0 ∧ s.len.toNat % 60 = 0 ∧ 60 ≤ s.len.toNat ∧ s.nrec.toNat < s.len.toNat / 60) :
    RegistersConsistent s :=
  ⟨hlen, by simp [hp], by simp [hp], fun _ => h, by simp [hp]⟩

theorem registersConsistent_of_done {s : State} (hp : s.phase = .done) (hlen : s.len.toNat ≤ s.config.bufCap)
    (h : s.fmtCause = 0 ∧ 1 ≤ s.nrec.toNat ∧ s.nrec.toNat ≤ s.config.recCap) : RegistersConsistent s :=
  ⟨hlen, by simp [hp], by simp [hp], by simp [hp], fun _ => h⟩

theorem registersConsistent_of_fmtErr {s : State} (hp : s.phase = .fmtErr) (hlen : s.len.toNat ≤ s.config.bufCap)
    (h : s.nrec = 0 ∧ s.fmtCause ≠ 0) : RegistersConsistent s :=
  ⟨hlen, by simp [hp], fun _ => h, by simp [hp], by simp [hp]⟩

/-- START ends in BUSY only after a format check that found LEN a positive multiple of 60, and in FMT_ERR else. -/
theorem registersConsistent_beginDecode {s : State} {cause : BitVec 2} (hlen : s.len.toNat ≤ s.config.bufCap)
    (hcheck : fmtCheck s = .ok cause) : RegistersConsistent (s.beginDecode cause) := by
  by_cases hc : cause = 0
  · subst hc
    obtain ⟨hmod, hpos⟩ := len_of_fmtCheck_zero hcheck
    exact registersConsistent_of_busy rfl hlen ⟨rfl, hmod, hpos, Nat.div_pos hpos (by decide)⟩
  · exact registersConsistent_of_fmtErr (if_neg hc) hlen ⟨rfl, hc⟩

/-- NREC stays below LEN div 60 while BUSY, so NREC + 1 does not wrap; it reaches LEN div 60 with DONE alone (R604),
where it is at most REC_CAP because LEN is at most BUF_CAP. -/
theorem registersConsistent_storeRecord {s : State} (hs : RegistersConsistent s) (hbusy : s.phase = .busy)
    (r : ProgramRecord) : RegistersConsistent (s.storeRecord r) := by
  obtain ⟨hlen, -, -, hb, -⟩ := hs
  obtain ⟨hcause, hmod, hpos, hlt⟩ := hb hbusy
  have hnrec : (s.storeRecord r).nrec.toNat = s.nrec.toNat + 1 := by
    have := s.len.isLt
    exact BitVec.toNat_add_of_lt (by simp; omega)
  by_cases hlast : s.nrec.toNat + 1 = s.len.toNat / 60
  · have hrecCap : s.len.toNat / 60 ≤ s.config.recCap := Nat.div_le_div_right hlen
    exact registersConsistent_of_done (if_pos hlast) hlen ⟨hcause, by omega, by rw [hnrec, hlast]; exact hrecCap⟩
  · exact registersConsistent_of_busy ((if_neg hlast).trans hbusy) hlen
      ⟨hcause, hmod, hpos, by rw [hnrec]; exact Nat.lt_of_le_of_ne hlt hlast⟩

/-- The registers of R111 and R108 change by START, WRLEN, SEQ's record and reset alone. -/
theorem registersConsistent_keptByUpdates : KeptByUpdates RegistersConsistent where
  reset := registersConsistent_resetWith
  setPending _ _ hs := hs
  respond _ _ hs := hs
  raiseFault _ _ hs _ := hs
  raiseSeqFault _ _ hs _ _ := hs
  storeRecord _ r hs hbusy _ := registersConsistent_storeRecord hs hbusy r
  writeByte _ _ _ hs _ _ := hs
  setLen _ _ := fun ⟨_, hidle, herr, _, hdone⟩ hbusy hcap =>
    ⟨hcap, hidle, herr, fun hb => absurd hb hbusy, hdone⟩
  beginDecode _ _ := fun ⟨hlen, _⟩ _ hcheck => registersConsistent_beginDecode hlen hcheck

/-- Settles O51: every state update keeps the registers consistent. -/
theorem registersConsistentKept : Obligations.RegistersConsistentKept := fun _ _ hs h =>
  registersConsistent_keptByUpdates.step hs h

/-! ## The frame of a command -/

/-- What the command `i` may write, from `s` to `t`. -/
structure CommandFrame (i : Instr) (s t : State) : Prop where
  config : t.config = s.config
  records : t.records = s.records
  pending : t.pending = s.pending
  buf : (∀ a d, i ≠ .wrbuf a d) → t.buf = s.buf
  bufElsewhere : ∀ a d, i = .wrbuf a d → ∀ x : Nat, x ≠ a.toNat → t.buf.read x = s.buf.read x
  len : (∀ n, i ≠ .wrlen n) → t.len = s.len
  decodeRegisters : i ≠ .start → t.phase = s.phase ∧ t.nrec = s.nrec ∧ t.fmtCause = s.fmtCause
  fault : s.fault &&& t.fault = s.fault
  rsp : t.rsp.isSome = true

/-- A response alone writes nothing else, whatever the command. -/
theorem commandFrame_respond (i : Instr) (s : State) (w : HostWord) : CommandFrame i s (s.respond w) :=
  ⟨rfl, rfl, rfl, fun _ => rfl, fun _ _ _ _ _ => rfl, fun _ => rfl, fun _ => ⟨rfl, rfl, rfl⟩, BitVec.and_self, rfl⟩

/-- A fault discards every other effect (R808). -/
theorem commandFrame_raiseFault (i : Instr) (s : State) (b : FaultBit) : CommandFrame i s (s.raiseFault b) :=
  { commandFrame_respond i s 0 with fault := fault_and_raiseFault s b }

theorem commandFrame_of_effect {i : Instr} {s t : State} (h : CommandEffect s i t) : CommandFrame i s t := by
  cases h with
  | answers i w => exact commandFrame_respond i s w
  | writesByte a d hbusy hcap =>
    refine { commandFrame_respond (.wrbuf a d) s 0 with buf := fun hi => absurd rfl (hi a d), bufElsewhere := ?_ }
    rintro _ _ ⟨⟩ x hx
    exact (Memory.read_write s.buf a.toNat d x).trans (if_neg hx)
  | setsLength n hbusy hcap =>
    exact { commandFrame_respond (.wrlen n) s 0 with len := fun hi => absurd rfl (hi n) }
  | beginsDecode cause hbusy hcheck =>
    exact { commandFrame_respond .start s 0 with decodeRegisters := fun hi => absurd rfl hi }

theorem commandFrame_of_exec {i : Instr} {s t : State} (h : exec i s = .next t) : CommandFrame i s t := by
  obtain ⟨-, -, rfl⟩ | ⟨-, b, rfl⟩ | ⟨-, heffect⟩ := exec_cases h
  · exact commandFrame_respond i s 0
  · exact commandFrame_raiseFault i s b
  · exact commandFrame_of_effect heffect

/-- Settles O41: a command is refused, takes a fault or has its effect, and each keeps to the command's frame. -/
theorem commandsFrame : Obligations.CommandsFrame := fun _ _ _ h =>
  have f := commandFrame_of_exec h
  ⟨f.config, f.records, f.pending, f.buf, f.bufElsewhere, f.len, f.decodeRegisters, f.fault, f.rsp⟩

/-! ## No stop -/

/-- No command stops the model: RDSTAT is served, and every other command goes through `command`. -/
theorem exec_next (i : Instr) (s : State) : ∃ t, exec i s = .next t := by
  cases i
  case rdstat => exact ⟨_, rfl⟩
  all_goals exact command_next s _

theorem execMalformed_next (op : BitVec 4) (s : State) : ∃ t, execMalformed op s = .next t := by
  unfold execMalformed
  split
  · exact ⟨_, rfl⟩
  · exact command_next s _

theorem commandStep_next (w : HostWord) (s : State) : ∃ t, commandStep w s = .next t := by
  unfold commandStep
  split
  · exact exec_next _ s
  · exact execMalformed_next _ s

/-- The SEQ step stops only where NREC is no entry of REC (log 7). -/
theorem seqStep_next {s : State} (h : s.nrec.toNat < s.config.recCap) : ∃ t, seqStep s = .next t := by
  unfold seqStep
  split
  · exact ⟨_, rfl⟩
  · exact ⟨_, if_pos h⟩

/-- R111 (c): in BUSY, NREC is an entry of REC. -/
theorem nrec_lt_recCap_of_busy {s : State} (hs : RegistersConsistent s) (hbusy : s.phase = .busy) :
    s.nrec.toNat < s.config.recCap := by
  obtain ⟨hlen, -, -, hb, -⟩ := hs
  obtain ⟨-, -, -, hlt⟩ := hb hbusy
  exact hlt.trans_le (Nat.div_le_div_right hlen)

theorem seqTurn_next {s : State} (hs : RegistersConsistent s) : ∃ t, seqTurn s = .next t := by
  unfold seqTurn
  split
  · rename_i henabled
    exact seqStep_next (nrec_lt_recCap_of_busy hs (seqEnabled_iff.1 henabled).1)
  · exact ⟨s, rfl⟩

theorem takeEvent_next (e : Event) {s : State} (hs : RegistersConsistent s) : ∃ t, takeEvent e s = .next t := by
  cases e with
  | command w => exact commandStep_next w s
  | seq => exact seqTurn_next hs
  | reset => exact ⟨_, rfl⟩

/-- Settles O54: SEQ's step alone can stop, and consistent registers rule its stop out. -/
theorem consistentStatesNeverStop : Obligations.ConsistentStatesNeverStop := by
  intro s hs
  unfold step advance
  split
  · exact seqTurn_next hs
  · exact takeEvent_next _ (registersConsistent_keptByUpdates.setPending s _ hs)

end Sys2Proof.Machine
end

section
/-!
PROOFS, family 20_memory.md. What a step takes and leaves: the event it takes off the list, the data that a decode keeps
stable (R212), the written records, and the read commands, which change the response alone (R207).
-/

namespace Sys2Proof.Machine

/-! ## The event a step takes -/

theorem step_of_pending_cons {s : State} {e : Event} {rest : List Event} (h : s.pending = e :: rest) :
    step s = takeEvent e (s.setPending rest) := by
  unfold step advance
  rw [h]

theorem step_of_pending_nil {s : State} (h : s.pending = []) : step s = seqTurn s := by
  unfold step advance
  rw [h]

/-- The step after `issue` takes the issued word, at the state before `issue`. -/
theorem step_issue (s : State) (w : HostWord) : step (s.issue w) = commandStep w s := rfl

theorem commandStep_of_decode_ok {w : HostWord} {i : Instr} (h : decode w = .ok i) (s : State) :
    commandStep w s = exec i s := by
  unfold commandStep
  rw [h]

theorem commandStep_of_decode_error {w : HostWord} {op : BitVec 4} (h : decode w = .error (.mustBeZero op))
    (s : State) : commandStep w s = execMalformed op s := by
  unfold commandStep
  rw [h]

/-- A whole command word is issued as it is. -/
theorem withFetchWord_toNat (s : State) (w : HostWord) : s.withFetchWord 32 w.toNat = s.issue w := by
  unfold State.withFetchWord
  rw [Nat.mod_eq_of_lt w.isLt, BitVec.ofNat_toNat, BitVec.setWidth_eq]

/-- A malformed word is refused under fault-stop, unless its operation code is RDSTAT's, and else takes ILLEGAL_CMD
(R803, R809). -/
theorem execMalformed_eq (op : BitVec 4) (s : State) :
    execMalformed op s =
      if s.fault ≠ 0 ∧ op ≠ 0x6 then .next (s.respond 0) else .next (s.raiseFault .illegalCmd) := by
  unfold execMalformed
  by_cases hop : op = 0x6#4
  · rw [if_pos hop, if_neg fun h => h.2 hop]
    rfl
  · rw [if_neg hop]
    by_cases hf : s.fault = 0
    · rw [command_of_noFault hf, if_neg fun h => h.1 hf]
      rfl
    · rw [command_of_faultStop hf, if_pos ⟨hf, hop⟩]

/-- Settles O43: the next pending word is decoded, and runs as its command or as a malformed word. -/
theorem stepRunsTheDecodedCommand : Obligations.StepRunsTheDecodedCommand := by
  refine ⟨fun s w rest i hp hi => ?_, fun s w i hi => ?_, fun s w rest op hp hop => ?_⟩
  · rw [step_of_pending_cons hp]
    exact commandStep_of_decode_ok hi _
  · rw [withFetchWord_toNat, step_issue, commandStep_of_decode_ok hi]
  · rw [step_of_pending_cons hp]
    exact (commandStep_of_decode_error hop _).trans (execMalformed_eq op _)

/-- Settles O44: a step takes the next pending event, and SEQ has its turn where none is pending. -/
theorem stepTakesSeqAndResetEvents : Obligations.StepTakesSeqAndResetEvents :=
  ⟨fun _ _ hp => step_of_pending_cons hp, fun _ _ hp => step_of_pending_cons hp, fun _ hp => step_of_pending_nil hp⟩

/-- Settles O45: every effect of a step leaves the configuration and the events that are left once the first is
taken off. -/
theorem stepTakesEventsInOrder : Obligations.StepTakesEventsInOrder := by
  intro s t h
  obtain rfl | ⟨-, -, b, -, rfl⟩ | ⟨-, -, blk, -, -, rfl⟩ | ⟨-, rfl⟩ | ⟨-, rfl⟩ | ⟨b, -, rfl⟩ |
    ⟨w, i, -, -, -, heffect⟩ := step_effects h rfl
  · exact ⟨rfl, rfl⟩
  · exact ⟨rfl, rfl⟩
  · exact ⟨rfl, rfl⟩
  · exact ⟨rfl, rfl⟩
  · exact ⟨rfl, rfl⟩
  · exact ⟨rfl, rfl⟩
  · have frame := commandFrame_of_effect heffect
    exact ⟨frame.pending, frame.config⟩

/-! ## Data stable during and after a decode -/

/-- R212, from `s` to `t`: BUF and LEN do not change while BUSY, nor REC, with its count, while DONE. -/
structure DataStable (s t : State) : Prop where
  whileBusy : s.phase = .busy → t.buf = s.buf ∧ t.len = s.len
  whileDone : s.phase = .done → t.records = s.records ∧ (t.phase = .done → t.nrec = s.nrec)

theorem dataStable_of_data_eq {s t : State} (hbuf : t.buf = s.buf) (hlen : t.len = s.len)
    (hrecords : t.records = s.records) (hnrec : t.nrec = s.nrec) : DataStable s t :=
  ⟨fun _ => ⟨hbuf, hlen⟩, fun _ => ⟨hrecords, fun _ => hnrec⟩⟩

/-- WRBUF and WRLEN have an effect outside BUSY only, and START, which sets NREC to 0, does not end in DONE. -/
theorem dataStable_of_effect {i : Instr} {s t : State} (h : CommandEffect s i t) : DataStable s t := by
  cases h with
  | answers _ w => exact dataStable_of_data_eq rfl rfl rfl rfl
  | writesByte a d hbusy hcap => exact ⟨fun hb => absurd hb hbusy, fun _ => ⟨rfl, fun _ => rfl⟩⟩
  | setsLength n hbusy hcap => exact ⟨fun hb => absurd hb hbusy, fun _ => ⟨rfl, fun _ => rfl⟩⟩
  | beginsDecode cause hbusy hcheck =>
    have hphase : ((s.beginDecode cause).respond 0).phase ≠ .done := by
      rw [State.respond_phase, State.beginDecode_phase]
      split <;> decide
    exact ⟨fun hb => absurd hb hbusy, fun _ => ⟨rfl, fun hd => absurd hd hphase⟩⟩

/-- Settles O46: while BUSY only SEQ writes data, and it writes REC; while DONE SEQ is not enabled. -/
theorem dataStableDuringAndAfterADecode : Obligations.DataStableDuringAndAfterADecode := by
  intro s t h hreset
  have stable : DataStable s t := by
    obtain rfl | ⟨-, -, b, -, rfl⟩ | ⟨hbusy, -, blk, -, -, rfl⟩ | ⟨hr, -⟩ | ⟨-, rfl⟩ | ⟨b, -, rfl⟩ |
      ⟨w, i, -, -, -, heffect⟩ := step_effects h rfl
    · exact dataStable_of_data_eq rfl rfl rfl rfl
    · exact dataStable_of_data_eq rfl rfl rfl rfl
    · exact ⟨fun _ => ⟨rfl, rfl⟩, fun hdone => absurd (hbusy.symm.trans hdone) (by decide)⟩
    · exact absurd hr hreset
    · exact dataStable_of_data_eq rfl rfl rfl rfl
    · exact dataStable_of_data_eq rfl rfl rfl rfl
    · have effectStable := dataStable_of_effect heffect
      exact ⟨effectStable.whileBusy, effectStable.whileDone⟩
  exact ⟨stable.whileBusy, stable.whileDone⟩

/-! ## The written records -/

/-- SEQ writes the entry at NREC before it raises NREC past it (R603). -/
theorem recordsWritten_storeRecord {s : State} (hs : RecordsWritten s) (r : ProgramRecord) :
    RecordsWritten (s.storeRecord r) := by
  intro i hi
  have hnrec : (s.storeRecord r).nrec.toNat ≤ s.nrec.toNat + 1 := by
    rw [State.storeRecord_nrec, BitVec.toNat_add]
    exact Nat.mod_le _ _
  rw [State.storeRecord_records, Store.read_write]
  by_cases hlast : i = s.nrec.toNat
  · rw [if_pos hlast]
    rfl
  · rw [if_neg hlast]
    exact hs i (by omega)

/-- NREC changes by SEQ's record and, to 0, by START and reset alone, and no step takes an entry out of REC. -/
theorem recordsWritten_keptByUpdates : KeptByUpdates RecordsWritten where
  reset := recordsWritten_resetWith
  setPending _ _ hs := hs
  respond _ _ hs := hs
  raiseFault _ _ hs _ := hs
  raiseSeqFault _ _ hs _ _ := hs
  storeRecord _ r hs _ _ := recordsWritten_storeRecord hs r
  writeByte _ _ _ hs _ _ := hs
  setLen _ _ hs _ _ := hs
  beginDecode _ _ _ _ _ := fun i hi => absurd hi (Nat.not_lt_zero i)

/-- Settles O52: every state update keeps the records below NREC written. -/
theorem recordsWrittenKept : Obligations.RecordsWrittenKept := fun _ _ hs h =>
  recordsWritten_keptByUpdates.step hs h

/-! ## No command reads the response, and a read command writes nothing else -/

theorem command_respond (s : State) (w : HostWord) (e : Except FaultBit State) :
    command (s.respond w) e = command s e := rfl

theorem memRead_respond (s : State) (w : HostWord) (a : Nat) : memRead (s.respond w) a = memRead s a := rfl

theorem memReadMany_respond (s : State) (w : HostWord) (a n : Nat) :
    memReadMany (s.respond w) a n = memReadMany s a n := by
  induction n generalizing a with
  | zero => rfl
  | succ n ih => simp only [memReadMany, memRead_respond, ih]

theorem fmtCheck_respond (s : State) (w : HostWord) : fmtCheck (s.respond w) = fmtCheck s := by
  unfold fmtCheck
  rw [memReadMany_respond]
  rfl

theorem execStart_respond (s : State) (w : HostWord) : execStart (s.respond w) = execStart s := by
  unfold execStart
  rw [fmtCheck_respond]
  rfl

theorem execWrbuf_respond (a : Count) (d : Byte) (s : State) (w : HostWord) :
    execWrbuf a d (s.respond w) = execWrbuf a d s := by
  by_cases hcap : a.toNat < s.config.bufCap
  · unfold execWrbuf
    rw [memWrite_of_lt hcap, memWrite_of_lt (s := s.respond w) hcap]
    rfl
  · unfold execWrbuf
    rw [memWrite_of_le (Nat.le_of_not_lt hcap), memWrite_of_le (s := s.respond w) (Nat.le_of_not_lt hcap)]
    rfl

/-- What a command does does not depend on the response before it (log 2). -/
theorem exec_respond (i : Instr) (s : State) (w : HostWord) : exec i (s.respond w) = exec i s := by
  cases i
  case wrbuf a d => exact execWrbuf_respond a d s w
  case start => exact execStart_respond s w
  all_goals rfl

/-- `i` is none of the three commands that write BUF, LEN or the registers of a decode. -/
structure ReadsOnly (i : Instr) : Prop where
  notWrbuf : ∀ a d, i ≠ .wrbuf a d
  notWrlen : ∀ n, i ≠ .wrlen n
  notStart : i ≠ .start

theorem readsOnly_rdrecInstr (k : Count) (f : Field) : ReadsOnly (rdrecInstr k f) := by
  cases f <;> exact ⟨nofun, nofun, nofun⟩

/-- By its frame, a command that writes nothing and leaves FAULT has changed the response alone. -/
theorem eq_respond_of_readsOnly {i : Instr} {s t : State} (hi : ReadsOnly i) (h : exec i s = .next t)
    (hfault : t.fault = s.fault) : ∃ w, t = s.respond w := by
  have frame := commandFrame_of_exec h
  obtain ⟨w, hrsp⟩ := Option.isSome_iff_exists.1 frame.rsp
  obtain ⟨hphase, hnrec, hcause⟩ := frame.decodeRegisters hi.notStart
  have hbuf := frame.buf hi.notWrbuf
  have hlen := frame.len hi.notWrlen
  have hconfig := frame.config
  have hrecords := frame.records
  have hpending := frame.pending
  refine ⟨w, ?_⟩
  cases t
  cases s
  simp_all [State.respond]

/-- Settles O42: a read command without a fault changes the response alone, which no command reads. -/
theorem readCommandsAreIdempotent : Obligations.ReadCommandsAreIdempotent := by
  intro i s t hread h hfault
  have hi : ReadsOnly i := by
    obtain ⟨a, rfl⟩ | rfl | rfl | rfl | ⟨k, f, rfl⟩ | ⟨l, m, rfl⟩ := hread
    · exact ⟨nofun, nofun, nofun⟩
    · exact ⟨nofun, nofun, nofun⟩
    · exact ⟨nofun, nofun, nofun⟩
    · exact ⟨nofun, nofun, nofun⟩
    · exact readsOnly_rdrecInstr k f
    · exact ⟨nofun, nofun, nofun⟩
  obtain ⟨w, rfl⟩ := eq_respond_of_readsOnly hi h hfault
  exact ⟨rfl, (exec_respond i s w).trans h⟩

end Sys2Proof.Machine
end

section
/-!
PROOFS, family 30_encoding.md. The command word and its decoder (R308 to R314), the reserved and the malformed
words (R310, R314, R710), the status word (R312), LOADBUF and WAITIDLE (R316), and the bits of a record (R305 to R307).
-/

namespace Sys2Proof

/-! ## A command word and its fields -/

/-- The two ways to build a word agree where bits 27..0 are zero. -/
theorem commandWord_zero (op : BitVec 4) : commandWord op 0 0 = reservedWord op 0 := by
  refine BitVec.eq_of_getLsbD_eq fun i _ => ?_
  rw [commandWord_getLsbD, reservedWord_getLsbD]
  by_cases h8 : i < 8
  · have h28 : i < 28 := by omega
    simp [h8, h28]
  · simp [h8]

theorem cmdLow_commandWord_zero (op : BitVec 4) : cmdLow (commandWord op 0 0) = 0 := by
  rw [commandWord_zero, cmdLow_reservedWord]

/-- A word with bits 27..0 zero is made of its operation code alone. -/
theorem commandWord_of_low_zero {w : HostWord} {op : BitVec 4} (hop : cmdOp w = op) (hlow : cmdLow w = 0) :
    commandWord op 0 0 = w := by
  rw [commandWord_zero, ← hop, ← hlow, reservedWord_fields]

theorem commandWord_of_fields {w : HostWord} {op : BitVec 4} {d : Byte} (hop : cmdOp w = op) (hd : cmdD w = d) :
    commandWord op (cmdA w) d = w := by
  rw [← hop, ← hd, commandWord_fields]

/-- A word with OP 9 and bits 27..16 zero is a COMBINE word. -/
theorem combineWord_of_fields {w : HostWord} (hop : cmdOp w = 0x9) (hhigh : cmdHigh w = 0) :
    combineWord (cmdD w) (cmdM w) = w := by
  have fields : cmdOp w ++ cmdHigh w ++ cmdM w ++ cmdD w = w := by
    refine BitVec.eq_of_getLsbD_eq fun i hi => ?_
    simp only [BitVec.getLsbD_append, cmdD, cmdM, cmdHigh, cmdOp, BitVec.getLsbD_extractLsb']
    split
    · rename_i hD
      simp [hD]
    · split
      · rename_i hM
        have hi8 : 8 + (i - 8) = i := by omega
        simp [hM, hi8]
      · split
        · rename_i hHigh
          have hi16 : 16 + (i - 8 - 8) = i := by omega
          simp [hHigh, hi16]
        · have hi28 : 28 + (i - 8 - 8 - 12) = i := by omega
          have hOp : i - 8 - 8 - 12 < 4 := by omega
          simp [hi28, hOp]
  rw [hop, hhigh] at fields
  exact fields

theorem ifZero_of_eq_zero {n : Nat} {x : BitVec n} {op : BitVec 4} {i : Instr} (h : x = 0) :
    ifZero (x == 0) op i = .ok i :=
  ifZero_eq_ok.2 ⟨beq_iff_eq.2 h, rfl⟩

/-! ## The reserved field ids -/

theorem encode_reservedFieldInstr (k : Count) (f : Byte) : encode (reservedFieldInstr k f) = commandWord 0x8 k f := by
  unfold reservedFieldInstr
  split
  · rfl
  · split
    · rfl
    · split <;> rfl

/-- The four rows of R314 cover the ids from 0x4C upward. -/
theorem wellFormed_reservedFieldInstr {k : Count} {f : Byte} (hf : 0x4C ≤ f.toNat) :
    (reservedFieldInstr k f).wellFormed = true := by
  unfold reservedFieldInstr
  split_ifs <;> simp [Instr.wellFormed] <;> omega

/-- A row of R314 holds the ids of its range alone, and by that range the decoder picks the row. -/
theorem eq_reservedFieldInstr_of_wellFormed {i : Instr}
    (hi : (∃ k f, i = .rdrecReserved4C k f) ∨ (∃ k f, i = .rdrecReserved50 k f) ∨
      (∃ k f, i = .rdrecReserved60 k f) ∨ ∃ k f, i = .rdrecReserved80 k f)
    (hw : i.wellFormed = true) : ∃ k f, 0x4C ≤ f.toNat ∧ i = reservedFieldInstr k f := by
  obtain ⟨k, f, rfl⟩ | ⟨k, f, rfl⟩ | ⟨k, f, rfl⟩ | ⟨k, f, rfl⟩ := hi
  all_goals
    refine ⟨k, f, ?_⟩
    simp only [Instr.wellFormed, Bool.and_eq_true, decide_eq_true_eq] at hw
    unfold reservedFieldInstr
  · rw [if_pos (by omega)]
    exact ⟨by omega, rfl⟩
  · rw [if_neg (by omega), if_pos (by omega)]
    exact ⟨by omega, rfl⟩
  · rw [if_neg (by omega), if_neg (by omega), if_pos (by omega)]
    exact ⟨by omega, rfl⟩
  · rw [if_neg (by omega), if_neg (by omega), if_neg (by omega)]
    exact ⟨by omega, rfl⟩

/-- Each reserved row decodes from its own words. -/
theorem decode_commandWord_reserved (k : Count) {f : Byte} (hf : 0x4C ≤ f.toNat) :
    decode (commandWord 0x8 k f) = .ok (reservedFieldInstr k f) := by
  have hop : cmdOp (commandWord 0x8 k f) = 0x8 := cmdOp_commandWord _ _ _
  have hid : Field.ofId (cmdD (commandWord 0x8 k f)) = none := by
    rw [cmdD_commandWord, Field.ofId_eq_none]
    exact hf
  rw [decode_of_op_rdrec_reserved hop hid, cmdA_commandWord, cmdD_commandWord]

/-- The word of RDREC for a field names that field's row (R313). -/
theorem decode_commandWord_field (k : Count) (f : Field) :
    decode (commandWord 0x8 k f.id) = .ok (rdrecInstr k f) := by
  have hop : cmdOp (commandWord 0x8 k f.id) = 0x8 := cmdOp_commandWord _ _ _
  have hid : Field.ofId (cmdD (commandWord 0x8 k f.id)) = some f := by
    rw [cmdD_commandWord, Field.ofId_id]
  rw [decode_of_op_rdrec hop hid, cmdA_commandWord]

/-! ## Decode and encode -/

/-- The words of the reserved operation codes 0xA..0xF, which no bit of theirs makes malformed (R710). -/
theorem decode_reservedWord_AB {op : BitVec 4} (h : op = 0xA ∨ op = 0xB) (low : BitVec 28) :
    decode (reservedWord op low) = .ok (.reservedOpAB op low) := by
  have hop : cmdOp (reservedWord op low) = 0xA ∨ cmdOp (reservedWord op low) = 0xB := by
    rwa [cmdOp_reservedWord]
  rw [decode_of_op_AB hop, cmdOp_reservedWord, cmdLow_reservedWord]

theorem decode_reservedWord_CF {op : BitVec 4} (h : 0xC ≤ op.toNat) (low : BitVec 28) :
    decode (reservedWord op low) = .ok (.reservedOpCF op low) := by
  have hop : 0xC ≤ (cmdOp (reservedWord op low)).toNat := by rwa [cmdOp_reservedWord]
  rw [decode_of_op_CF hop, cmdOp_reservedWord, cmdLow_reservedWord]

/-- Every well-formed command is the one its word decodes to. -/
theorem decode_encode {i : Instr} (hw : i.wellFormed = true) : decode (encode i) = .ok i := by
  obtain rfl | ⟨a, d, rfl⟩ | ⟨a, rfl⟩ | ⟨n, rfl⟩ | rfl | rfl | rfl | rfl | ⟨l, m, rfl⟩ | ⟨k, f, rfl⟩ | hreserved |
    ⟨op, low, rfl⟩ | ⟨op, low, rfl⟩ := instr_cases i
  · exact (decode_of_op_nop (cmdOp_commandWord _ _ _)).trans (ifZero_of_eq_zero (cmdLow_commandWord_zero _))
  · change decode (commandWord 0x1 a d) = _
    rw [decode_of_op_wrbuf (cmdOp_commandWord _ _ _), cmdA_commandWord, cmdD_commandWord]
  · change decode (commandWord 0x2 a 0) = _
    rw [decode_of_op_rdbuf (cmdOp_commandWord _ _ _), ifZero_of_eq_zero (cmdD_commandWord _ _ _), cmdA_commandWord]
  · change decode (commandWord 0x3 n 0) = _
    rw [decode_of_op_wrlen (cmdOp_commandWord _ _ _), ifZero_of_eq_zero (cmdD_commandWord _ _ _), cmdA_commandWord]
  · exact (decode_of_op_rdlen (cmdOp_commandWord _ _ _)).trans (ifZero_of_eq_zero (cmdLow_commandWord_zero _))
  · exact (decode_of_op_start (cmdOp_commandWord _ _ _)).trans (ifZero_of_eq_zero (cmdLow_commandWord_zero _))
  · exact (decode_of_op_rdstat (cmdOp_commandWord _ _ _)).trans (ifZero_of_eq_zero (cmdLow_commandWord_zero _))
  · exact (decode_of_op_rdnrec (cmdOp_commandWord _ _ _)).trans (ifZero_of_eq_zero (cmdLow_commandWord_zero _))
  · change decode (combineWord l m) = _
    rw [decode_of_op_combine (cmdOp_combineWord l m), ifZero_of_eq_zero (cmdHigh_combineWord l m),
      cmdD_combineWord, cmdM_combineWord]
  · rw [encode_rdrecInstr, decode_commandWord_field]
  · obtain ⟨k, f, hf, rfl⟩ := eq_reservedFieldInstr_of_wellFormed hreserved hw
    rw [encode_reservedFieldInstr, decode_commandWord_reserved k hf]
  · exact decode_reservedWord_AB (by simpa [Instr.wellFormed] using hw) low
  · exact decode_reservedWord_CF (by simpa [Instr.wellFormed] using hw) low

/-- A word that decodes is the word of its command, and its command is well-formed. -/
theorem encode_of_decode {w : HostWord} {i : Instr} (h : decode w = .ok i) : encode i = w ∧ i.wellFormed = true := by
  obtain hop | hop | hop | hop | hop | hop | hop | hop | hop | hop | hop | hop := cmdOp_cases w
  · obtain ⟨hz, rfl⟩ := ifZero_eq_ok.1 ((decode_of_op_nop hop).symm.trans h)
    exact ⟨commandWord_of_low_zero hop (eq_of_beq hz), rfl⟩
  · obtain rfl := Except.ok.inj ((decode_of_op_wrbuf hop).symm.trans h)
    exact ⟨commandWord_of_fields hop rfl, rfl⟩
  · obtain ⟨hz, rfl⟩ := ifZero_eq_ok.1 ((decode_of_op_rdbuf hop).symm.trans h)
    exact ⟨commandWord_of_fields hop (eq_of_beq hz), rfl⟩
  · obtain ⟨hz, rfl⟩ := ifZero_eq_ok.1 ((decode_of_op_wrlen hop).symm.trans h)
    exact ⟨commandWord_of_fields hop (eq_of_beq hz), rfl⟩
  · obtain ⟨hz, rfl⟩ := ifZero_eq_ok.1 ((decode_of_op_rdlen hop).symm.trans h)
    exact ⟨commandWord_of_low_zero hop (eq_of_beq hz), rfl⟩
  · obtain ⟨hz, rfl⟩ := ifZero_eq_ok.1 ((decode_of_op_start hop).symm.trans h)
    exact ⟨commandWord_of_low_zero hop (eq_of_beq hz), rfl⟩
  · obtain ⟨hz, rfl⟩ := ifZero_eq_ok.1 ((decode_of_op_rdstat hop).symm.trans h)
    exact ⟨commandWord_of_low_zero hop (eq_of_beq hz), rfl⟩
  · obtain ⟨hz, rfl⟩ := ifZero_eq_ok.1 ((decode_of_op_rdnrec hop).symm.trans h)
    exact ⟨commandWord_of_low_zero hop (eq_of_beq hz), rfl⟩
  · cases hid : Field.ofId (cmdD w) with
    | some f =>
      obtain rfl := Except.ok.inj ((decode_of_op_rdrec hop hid).symm.trans h)
      rw [encode_rdrecInstr]
      exact ⟨commandWord_of_fields hop (Field.id_of_ofId _ f hid).symm, wellFormed_rdrecInstr _ f⟩
    | none =>
      obtain rfl := Except.ok.inj ((decode_of_op_rdrec_reserved hop hid).symm.trans h)
      rw [encode_reservedFieldInstr]
      exact ⟨commandWord_of_fields hop rfl, wellFormed_reservedFieldInstr ((Field.ofId_eq_none _).1 hid)⟩
  · obtain ⟨hz, rfl⟩ := ifZero_eq_ok.1 ((decode_of_op_combine hop).symm.trans h)
    exact ⟨combineWord_of_fields hop (eq_of_beq hz), rfl⟩
  · obtain rfl := Except.ok.inj ((decode_of_op_AB hop).symm.trans h)
    exact ⟨reservedWord_fields w, by simpa [Instr.wellFormed] using hop⟩
  · obtain rfl := Except.ok.inj ((decode_of_op_CF hop).symm.trans h)
    exact ⟨reservedWord_fields w, by simpa [Instr.wellFormed] using hop⟩

/-- Settles O1: each row of the opcode table decodes from the word that the row builds. -/
theorem decodeOfEncode : Obligations.DecodeOfEncode := fun _ hw => decode_encode hw

/-- Settles O2: by operation code, the fields that the decoder reads are all that the word has. -/
theorem encodeOfDecode : Obligations.EncodeOfDecode := fun _ _ h => encode_of_decode h

/-- How to decode a word that is written out. -/
theorem decode_of_encode_eq {w : HostWord} {i : Instr} (hw : i.wellFormed = true) (h : encode i = w) :
    decode w = .ok i := by
  rw [← h, decode_encode hw]

/-- Settles O4: each word is the word of the command named for it. -/
theorem specWordsDecode : Obligations.SpecWordsDecode :=
  ⟨decode_of_encode_eq rfl rfl, decode_of_encode_eq rfl rfl, decode_of_encode_eq rfl rfl, decode_of_encode_eq rfl rfl,
    decode_of_encode_eq rfl rfl, decode_of_encode_eq rfl rfl, decode_of_encode_eq rfl rfl, decode_of_encode_eq rfl rfl,
    decode_of_encode_eq rfl rfl, decode_of_encode_eq rfl rfl, decode_of_encode_eq rfl rfl, decode_of_encode_eq rfl rfl,
    decode_of_encode_eq rfl rfl⟩

/-! ## The words that are rejected -/

/-- R310: a bit is set in a field that the row of the word's operation code requires to be 0. -/
def MustBeZeroBitSet (w : HostWord) : Prop :=
  ((cmdOp w = 0x0 ∨ cmdOp w = 0x4 ∨ cmdOp w = 0x5 ∨ cmdOp w = 0x6 ∨ cmdOp w = 0x7) ∧ cmdLow w ≠ 0) ∨
    ((cmdOp w = 0x2 ∨ cmdOp w = 0x3) ∧ cmdD w ≠ 0) ∨ (cmdOp w = 0x9 ∧ cmdHigh w ≠ 0)

/-- The decoder rejects a word for its must-be-zero bits alone, under the word's own operation code. -/
theorem decode_eq_error {w : HostWord} {e : DecodeError} :
    decode w = .error e ↔ MustBeZeroBitSet w ∧ e = .mustBeZero (cmdOp w) := by
  unfold MustBeZeroBitSet
  obtain hop | hop | hop | hop | hop | hop | hop | hop | hop | hop | hop | hop := cmdOp_cases w
  · rw [decode_of_op_nop hop, ifZero_eq_error]
    simp [hop]
  · rw [decode_of_op_wrbuf hop]
    simp [hop]
  · rw [decode_of_op_rdbuf hop, ifZero_eq_error]
    simp [hop]
  · rw [decode_of_op_wrlen hop, ifZero_eq_error]
    simp [hop]
  · rw [decode_of_op_rdlen hop, ifZero_eq_error]
    simp [hop]
  · rw [decode_of_op_start hop, ifZero_eq_error]
    simp [hop]
  · rw [decode_of_op_rdstat hop, ifZero_eq_error]
    simp [hop]
  · rw [decode_of_op_rdnrec hop, ifZero_eq_error]
    simp [hop]
  · cases hid : Field.ofId (cmdD w) with
    | some f =>
      rw [decode_of_op_rdrec hop hid]
      simp [hop]
    | none =>
      rw [decode_of_op_rdrec_reserved hop hid]
      simp [hop]
  · rw [decode_of_op_combine hop, ifZero_eq_error]
    simp [hop]
  · rw [decode_of_op_AB hop]
    rcases hop with hop | hop <;> simp [hop]
  · rw [decode_of_op_CF hop]
    have hne : ∀ n : BitVec 4, n.toNat < 0xC → cmdOp w ≠ n := by
      rintro n hn rfl
      omega
    simp [hne]

/-- Settles O3: the must-be-zero bits decide, and the error names the operation code. -/
theorem decodeRejectsMustBeZeroWords : Obligations.DecodeRejectsMustBeZeroWords := by
  refine ⟨fun w => ⟨fun ⟨e, he⟩ => (decode_eq_error.1 he).1, fun h => ⟨_, decode_eq_error.2 ⟨h, rfl⟩⟩⟩,
    fun w op h => ?_⟩
  obtain ⟨-, he⟩ := decode_eq_error.1 h
  exact DecodeError.mustBeZero.inj he

namespace Machine

/-! ## The reserved encodings -/

/-- With no fault set, taking a fault sets its bit alone. -/
theorem raiseFault_of_noFault {s : State} (h : s.fault = 0) (b : FaultBit) :
    s.raiseFault b = { s with fault := b.mask, rsp := some 0 } := by
  have hfault : s.fault ||| b.mask = b.mask := by rw [h]; exact BitVec.zero_or
  unfold State.raiseFault
  rw [hfault]

theorem command_error_of_noFault {s : State} (h : s.fault = 0) (b : FaultBit) :
    command s (.error b) = .next { s with fault := b.mask, rsp := some 0 } := by
  rw [command_of_noFault h, settle_error, raiseFault_of_noFault h]

/-- R314: the rows of the reserved field ids have one meaning. -/
theorem exec_reservedFieldInstr (k : Count) (f : Byte) (s : State) :
    exec (reservedFieldInstr k f) s = command s (.error .illegalCmd) := by
  unfold reservedFieldInstr
  split
  · rfl
  · split
    · rfl
    · split <;> rfl

/-- R710: a reserved operation code, whatever the other bits. -/
theorem commandStep_of_op_reserved {w : HostWord} (h : 0xA ≤ (cmdOp w).toNat) (s : State) :
    commandStep w s = command s (.error .illegalCmd) := by
  have all : ∀ op : BitVec 4, 0xA ≤ op.toNat → (op = 0xA ∨ op = 0xB) ∨ 0xC ≤ op.toNat := by decide
  obtain hop | hop := all _ h
  · exact commandStep_of_decode_ok (decode_of_op_AB hop) s
  · exact commandStep_of_decode_ok (decode_of_op_CF hop) s

/-- R314: a reserved field id, whatever the record number. -/
theorem commandStep_of_reserved_field {w : HostWord} (hop : cmdOp w = 0x8) (hd : 0x4C ≤ (cmdD w).toNat) (s : State) :
    commandStep w s = command s (.error .illegalCmd) := by
  have hid : Field.ofId (cmdD w) = none := (Field.ofId_eq_none _).2 hd
  rw [commandStep_of_decode_ok (decode_of_op_rdrec_reserved hop hid), exec_reservedFieldInstr]

/-- Settles O28: every reserved row is a command whose check raises ILLEGAL_CMD, and the reserved words decode to
those rows. -/
theorem reservedEncodings : Obligations.ReservedEncodings := by
  intro s hs
  have illegal := command_error_of_noFault hs .illegalCmd
  refine ⟨fun k f => ⟨illegal, illegal, illegal, illegal⟩, fun op low => ⟨illegal, illegal⟩, fun w hw => ?_⟩
  obtain hop | ⟨hop, hd⟩ := hw
  · rw [commandStep_of_op_reserved hop]
    exact illegal
  · rw [commandStep_of_reserved_field hop hd]
    exact illegal

/-! ## The status word -/

/-- R312, bit by bit. -/
theorem statusWord_getLsbD (s : State) {i : Nat} (hi : i < 32) :
    (statusWord s).getLsbD i =
      (!decide (i < 8) && s.fault.getLsbD (i - 8) || !decide (i < 2) && s.fmtCause.getLsbD (i - 2) ||
        s.phase.code.getLsbD i) := by
  have h8 : i - 8 < 32 := by omega
  have h2 : i - 2 < 32 := by omega
  simp only [statusWord, BitVec.getLsbD_or, BitVec.getLsbD_shiftLeft, BitVec.getLsbD_setWidth, hi, h8, h2,
    decide_true, Bool.true_and]

@[simp] theorem statusWord_state (s : State) : (statusWord s).extractLsb' 0 2 = s.phase.code := by
  refine BitVec.eq_of_getLsbD_eq fun i hi => ?_
  have h8 : i < 8 := by omega
  rw [BitVec.getLsbD_extractLsb', Nat.zero_add, statusWord_getLsbD s (by omega)]
  simp [hi, h8]

@[simp] theorem statusWord_fmtCause (s : State) : (statusWord s).extractLsb' 2 2 = s.fmtCause := by
  refine BitVec.eq_of_getLsbD_eq fun i hi => ?_
  have h8 : 2 + i < 8 := by omega
  have hcode : s.phase.code.getLsbD (2 + i) = false := BitVec.getLsbD_of_ge _ _ (by omega)
  have hge : ¬ 2 + i < 2 := by omega
  rw [BitVec.getLsbD_extractLsb', statusWord_getLsbD s (by omega), hcode]
  simp only [hi, h8, hge, decide_true, decide_false, Bool.not_true, Bool.not_false, Bool.true_and, Bool.false_and,
    Bool.false_or, Bool.or_false, Nat.add_sub_cancel_left]

@[simp] theorem statusWord_fault (s : State) : (statusWord s).extractLsb' 8 5 = s.fault := by
  refine BitVec.eq_of_getLsbD_eq fun i hi => ?_
  have hcause : s.fmtCause.getLsbD (8 + i - 2) = false := BitVec.getLsbD_of_ge _ _ (by omega)
  have hcode : s.phase.code.getLsbD (8 + i) = false := BitVec.getLsbD_of_ge _ _ (by omega)
  rw [BitVec.getLsbD_extractLsb', statusWord_getLsbD s (by omega)]
  simp [hi, hcause, hcode]

/-- R312: the bits between FMT_CAUSE and FAULT. -/
theorem statusWord_gap (s : State) : (statusWord s).extractLsb' 4 4 = 0 := by
  refine BitVec.eq_of_getLsbD_eq fun i hi => ?_
  have h8 : 4 + i < 8 := by omega
  have hcause : s.fmtCause.getLsbD (4 + i - 2) = false := BitVec.getLsbD_of_ge _ _ (by omega)
  have hcode : s.phase.code.getLsbD (4 + i) = false := BitVec.getLsbD_of_ge _ _ (by omega)
  rw [BitVec.getLsbD_extractLsb', statusWord_getLsbD s (by omega)]
  simp [h8, hcause, hcode]

/-- R312: the bits above FAULT. -/
theorem statusWord_top (s : State) : (statusWord s).extractLsb' 13 19 = 0 := by
  refine BitVec.eq_of_getLsbD_eq fun i hi => ?_
  have hfault : s.fault.getLsbD (13 + i - 8) = false := BitVec.getLsbD_of_ge _ _ (by omega)
  have hcause : s.fmtCause.getLsbD (13 + i - 2) = false := BitVec.getLsbD_of_ge _ _ (by omega)
  have hcode : s.phase.code.getLsbD (13 + i) = false := BitVec.getLsbD_of_ge _ _ (by omega)
  rw [BitVec.getLsbD_extractLsb', statusWord_getLsbD s (by omega)]
  simp [hfault, hcause, hcode]

/-- Settles O20: each field of the status word by itself. -/
theorem statusWordLayout : Obligations.StatusWordLayout :=
  ⟨fun s => ⟨rfl, statusWord_state s, statusWord_fmtCause s, statusWord_gap s, statusWord_fault s, statusWord_top s⟩,
    rfl, rfl, rfl, rfl⟩

/-! ## LOADBUF and WAITIDLE -/

theorem Phase.code_eq_one {p : Phase} : p.code = 1 ↔ p = .busy := by cases p <;> decide

theorem waitAgain_statusWord {s : State} : waitAgain (statusWord s) = true ↔ s.phase = .busy ∧ s.fault = 0 := by
  rw [waitAgain, statusWord_state, statusWord_fault, Bool.and_eq_true, beq_iff_eq, beq_iff_eq, Phase.code_eq_one]

theorem fits_of_lt {w n : Nat} (h : n < 2 ^ w) : fits w n = .ok (BitVec.ofNat w n) := if_pos h

/-- R316: `WRBUF a+j, bj` for the bytes in turn, while the addresses fit. -/
theorem loadWords_eq_mapIdx {a : Nat} {bytes : List Byte} (h : a + bytes.length ≤ 2 ^ 20) :
    loadWords a bytes = .ok (bytes.mapIdx fun j b => .issue (encode (.wrbuf (BitVec.ofNat 20 (a + j)) b))) := by
  induction bytes generalizing a with
  | nil => rfl
  | cons b bs ih =>
    rw [List.length_cons] at h
    have hrest := ih (a := a + 1) (by omega)
    have hshift : ∀ j, a + 1 + j = a + (j + 1) := fun j => by omega
    simp only [hshift] at hrest
    rw [loadWords, fits_of_lt (by omega), hrest, List.mapIdx_cons]
    rfl

/-- Settles O60: LOADBUF by induction on its bytes, WAITIDLE from the fields of the status word. -/
theorem macrosExpandAsWritten : Obligations.MacrosExpandAsWritten :=
  ⟨fun _ _ h => loadWords_eq_mapIdx h, fun _ => waitAgain_statusWord⟩

/-! ## The response words of a record -/

/-- Every field is at most 32 bits wide, so its zero-extension keeps its value (R311). -/
theorem zext32_toNat {w : Nat} (hw : w ≤ 32) (v : BitVec w) : (zext32 v).toNat = v.toNat :=
  BitVec.toNat_setWidth_of_le hw

/-- Settles O19: the word of each field is its zero-extension. -/
theorem recordWordIsTheField : Obligations.RecordWordIsTheField := by
  intro r
  and_intros <;> exact zext32_toNat (by decide) _

/-! ## The bits of a record -/

/-- R304: a logical byte is its bits 7..2 and 1..0. -/
theorem upperSix_append_lowTwo (d : Byte) : upperSix d ++ lowTwo d = d := by
  revert d
  decide

/-- Two flags hold bits 1 and 0. -/
theorem flagBit_append_flagBit (d : Byte) : flagBit d 1 ++ flagBit d 0 = lowTwo d := by
  revert d
  decide

/-- Bits 1..0 of a byte, masked in place. -/
theorem and_three_eq_lowTwo (d : Byte) : d &&& 0x3 = (lowTwo d).setWidth 8 := by
  revert d
  decide

/-- Bit 1 of a byte, shifted down and masked. -/
theorem shift_and_one_eq_flagBit (d : Byte) : (d >>> 1) &&& 0x1 = (flagBit d 1).setWidth 8 := by
  revert d
  decide

/-- R581, R582: the lower logical byte of the two is the most significant. -/
theorem waveSelector_eq_append (d d' : Byte) : waveSelector d d' = lowTwo d ++ flagBit d' 1 := by
  have slices : ∀ (x : BitVec 2) (y : BitVec 1), ((x.setWidth 8 <<< 1) ||| y.setWidth 8).setWidth 3 = x ++ y := by
    decide
  unfold waveSelector
  rw [and_three_eq_lowTwo, shift_and_one_eq_flagBit, slices]

/-- R583, R584: the three slices, the lowest logical byte most significant. -/
theorem sixBitComposite_eq_append (d d' d'' : Byte) :
    sixBitComposite d d' d'' = lowTwo d ++ lowTwo d' ++ lowTwo d'' := by
  have slices : ∀ x y z : BitVec 2,
      ((x.setWidth 8 <<< 4) ||| (y.setWidth 8 <<< 2) ||| z.setWidth 8).setWidth 6 = x ++ y ++ z := by decide
  unfold sixBitComposite
  rw [and_three_eq_lowTwo, and_three_eq_lowTwo, and_three_eq_lowTwo, slices]

theorem waveSelector_high (d d' : Byte) : (waveSelector d d').extractLsb' 1 2 = lowTwo d := by
  rw [waveSelector_eq_append, BitVec.extractLsb'_append_eq_left]

/-- Bit 0 of a selector is bit 1 of its second byte; a flag is bit 0 of that byte. -/
theorem waveSelector_low_append_flagBit (d d' : Byte) :
    (waveSelector d d').extractLsb' 0 1 ++ flagBit d' 0 = lowTwo d' := by
  rw [waveSelector_eq_append, BitVec.extractLsb'_append_eq_right, flagBit_append_flagBit]

theorem sixBitComposite_high (d d' d'' : Byte) : (sixBitComposite d d' d'').extractLsb' 4 2 = lowTwo d := by
  have slice : ∀ x y z : BitVec 2, (x ++ y ++ z).extractLsb' 4 2 = x := by decide
  rw [sixBitComposite_eq_append, slice]

theorem sixBitComposite_middle (d d' d'' : Byte) : (sixBitComposite d d' d'').extractLsb' 2 2 = lowTwo d' := by
  have slice : ∀ x y z : BitVec 2, (x ++ y ++ z).extractLsb' 2 2 = y := by decide
  rw [sixBitComposite_eq_append, slice]

theorem sixBitComposite_low (d d' d'' : Byte) : (sixBitComposite d d' d'').extractLsb' 0 2 = lowTwo d'' := by
  rw [sixBitComposite_eq_append, BitVec.extractLsb'_append_eq_right]

/-- Bits 7..2 of the 27 logical bytes, read back from a record: the continuous fields (R520 to R546). -/
def ProgramRecord.upperBits (r : ProgramRecord) : Fin 27 → BitVec 6 :=
  ![r.vcfRel, r.vcaRel, r.vcfDcy, r.vcaDcy, r.vcfAtk, r.vcaAtk, r.vcfSus, r.vcaSus, r.vcfMod, r.vcfRes, r.oscPWM,
    r.lfoFreq, r.fmAmnt, r.pwmAmnt, r.portAmt, r.osc2Detune, r.vcfFreq, r.vco2Freq, r.vco1Freq, r.lfoTrigPoint,
    r.pedalSustn, r.fmVibRaise, r.pwmVibRaise, r.fmVibDelay, r.pwmVibDelay, r.voiceDetune, r.bendAmount]

/-- Bits 1..0 of the 27 logical bytes, read back from a record: the flags, selectors and composites
(R547 to R584). -/
def ProgramRecord.lowBits (r : ProgramRecord) : Fin 27 → BitVec 2 :=
  ![r.lfoWave.extractLsb' 1 2, r.lfoWave.extractLsb' 0 1 ++ r.unison, r.filterFM ++ r.osc2FM, r.osc2Wave, r.osc1Wave,
    r.osc2PWM ++ r.osc1PWM, r.noise ++ r.fourPole, r.osc2On ++ r.osc2Half, r.osc1On ++ r.kbdTrack,
    r.pw1180 ++ r.vco1180, r.vcaMod ++ r.fEnv, r.sync ++ r.osc1FM, r.volume.extractLsb' 4 2,
    r.volume.extractLsb' 2 2, r.volume.extractLsb' 0 2, r.vco2PW.extractLsb' 4 2, r.vco2PW.extractLsb' 2 2,
    r.vco2PW.extractLsb' 0 2, r.spare ++ r.legato, r.trigLfoWave.extractLsb' 1 2,
    r.trigLfoWave.extractLsb' 0 1 ++ r.portBend, r.lfoTrack ++ r.fmDlyInvert, r.portQuant ++ r.portMatch,
    r.flag180 ++ r.flag90, r.pwmDlyInvert ++ r.pwmQuant, r.expoPort ++ r.constPort, r.lfoRateDelay ++ r.fmQuant]

theorem upperBits_decodeProgram (blk : Block) (k : Fin 27) :
    (decodeProgram blk).upperBits k = upperSix (logicalByte blk k) := by
  fin_cases k <;> rfl

theorem lowBits_decodeProgram (blk : Block) (k : Fin 27) :
    (decodeProgram blk).lowBits k = lowTwo (logicalByte blk k) := by
  fin_cases k
  exacts [waveSelector_high _ _, waveSelector_low_append_flagBit _ _, flagBit_append_flagBit _, rfl, rfl,
    flagBit_append_flagBit _, flagBit_append_flagBit _, flagBit_append_flagBit _, flagBit_append_flagBit _,
    flagBit_append_flagBit _, flagBit_append_flagBit _, flagBit_append_flagBit _, sixBitComposite_high _ _ _,
    sixBitComposite_middle _ _ _, sixBitComposite_low _ _ _, sixBitComposite_high _ _ _,
    sixBitComposite_middle _ _ _, sixBitComposite_low _ _ _, flagBit_append_flagBit _, waveSelector_high _ _,
    waveSelector_low_append_flagBit _ _, flagBit_append_flagBit _, flagBit_append_flagBit _,
    flagBit_append_flagBit _, flagBit_append_flagBit _, flagBit_append_flagBit _, flagBit_append_flagBit _]

/-- The record gives every logical byte back. -/
theorem upperBits_append_lowBits (blk : Block) (k : Fin 27) :
    (decodeProgram blk).upperBits k ++ (decodeProgram blk).lowBits k = logicalByte blk k := by
  rw [upperBits_decodeProgram, lowBits_decodeProgram, upperSix_append_lowTwo]

/-- Settles O17: the index byte is a field, and each logical byte is made of fields. -/
theorem everyLogicalBitIsKept : Obligations.EveryLogicalBitIsKept := by
  intro blk blk' h
  refine ⟨congrArg ProgramRecord.index h, fun k => ?_⟩
  rw [← upperBits_append_lowBits blk, ← upperBits_append_lowBits blk', h]

end Machine

end Sys2Proof
end

section
/-!
PROOFS, family 40_nibble_combiner.md. The combiner bit by bit, by nibbles, and as a number (R400 to R402).
-/

namespace Sys2Proof.Machine

/-! ## The combiner by bits and by nibbles -/

/-- R400: bits 7..4 of the combiner take `msb[3:0]` in, bits 3..0 are `lsb`'s alone. -/
theorem combine_getLsbD (lsb msb : Byte) {i : Nat} (hi : i < 8) :
    (combine lsb msb).getLsbD i = (lsb.getLsbD i || (decide (4 ≤ i) && msb.getLsbD (i - 4))) := by
  have lowNibble : ∀ j < 4, (0xF : Byte).getLsbD j = true := by decide
  rw [combine, BitVec.getLsbD_or, BitVec.getLsbD_shiftLeft, BitVec.getLsbD_and, lowNibble (i - 4) (by omega)]
  by_cases h4 : i < 4
  · have hge : ¬ 4 ≤ i := by omega
    simp [h4, hge]
  · have hge : 4 ≤ i := by omega
    simp [hi, h4, hge]

@[simp] theorem combine_lowNibble (lsb msb : Byte) :
    (combine lsb msb).extractLsb' 0 4 = lsb.extractLsb' 0 4 := by
  refine BitVec.eq_of_getLsbD_eq fun i hi => ?_
  have hge : ¬ 4 ≤ i := by omega
  rw [BitVec.getLsbD_extractLsb', BitVec.getLsbD_extractLsb', Nat.zero_add, combine_getLsbD lsb msb (by omega)]
  simp [hge]

@[simp] theorem combine_highNibble (lsb msb : Byte) :
    (combine lsb msb).extractLsb' 4 4 = lsb.extractLsb' 4 4 ||| msb.extractLsb' 0 4 := by
  refine BitVec.eq_of_getLsbD_eq fun i hi => ?_
  rw [BitVec.getLsbD_extractLsb', combine_getLsbD lsb msb (by omega), BitVec.getLsbD_or]
  simp [hi]

/-- R402: `msb[7:4]` is ignored. -/
theorem combine_maskedMsb (lsb msb : Byte) : combine lsb (msb &&& 0xF) = combine lsb msb := by
  rw [combine, combine, BitVec.and_assoc, BitVec.and_self]

/-! ## The combiner as a number -/

theorem lowNibble_shiftLeft_toNat (msb : Byte) : ((msb &&& 0xF) <<< 4).toNat = msb.toNat % 16 * 16 := by
  have mask : msb.toNat &&& 15 = msb.toNat % 16 := Nat.and_two_pow_sub_one_eq_mod msb.toNat 4
  have hand : (msb &&& 0xF).toNat = msb.toNat % 16 := mask
  rw [BitVec.toNat_shiftLeft, hand, Nat.shiftLeft_eq]
  omega

theorem combine_toNat (lsb msb : Byte) : (combine lsb msb).toNat = lsb.toNat ||| (msb.toNat % 16 * 16) := by
  rw [combine, BitVec.toNat_or, lowNibble_shiftLeft_toNat]

/-! ## A clean lsb: the combiner is a concatenation -/

/-- R402: without bits in `lsb[7:4]` the two operands of the OR do not overlap. -/
theorem combine_toNat_of_lt {lsb : Byte} (msb : Byte) (h : lsb.toNat < 0x10) :
    (combine lsb msb).toNat = msb.toNat % 16 * 16 + lsb.toNat := by
  have disjoint := Nat.shiftLeft_add_eq_or_of_lt (i := 4) h (msb.toNat % 16)
  rw [Nat.shiftLeft_eq] at disjoint
  rw [combine_toNat, Nat.lor_comm]
  exact disjoint.symm

theorem combine_eq_append_of_lt {lsb : Byte} (msb : Byte) (h : lsb.toNat < 0x10) :
    combine lsb msb = msb.extractLsb' 0 4 ++ lsb.extractLsb' 0 4 := by
  have clean : lsb.extractLsb' 4 4 = 0#4 := by
    apply BitVec.eq_of_toNat_eq
    rw [BitVec.extractLsb'_toNat, Nat.shiftRight_eq_div_pow, Nat.div_eq_of_lt h]
    rfl
  have halves : (combine lsb msb).extractLsb' 4 4 ++ (combine lsb msb).extractLsb' 0 4 = combine lsb msb := by
    rw [BitVec.extractLsb'_append_extractLsb'_eq_extractLsb' (Nat.zero_add 4).symm, BitVec.extractLsb'_eq_self]
  rw [← halves, combine_highNibble, combine_lowNibble, clean, BitVec.zero_or]

/-! ## The statements -/

/-- Settles O5: the formula is the definition, and each nibble and the value follow from it. -/
theorem combineMergesNibbles : Obligations.CombineMergesNibbles :=
  ⟨fun lsb msb => ⟨rfl, combine_toNat lsb msb, combine_lowNibble lsb msb, combine_highNibble lsb msb⟩,
    rfl, rfl, rfl⟩

/-- Settles O6: the mask absorbs `msb[7:4]`, and a clean `lsb` leaves `msb[3:0]` alone in the high nibble. -/
theorem combineLaws : Obligations.CombineLaws :=
  ⟨rfl, rfl, fun lsb msb => ⟨(combine_maskedMsb lsb msb).symm, combine_lowNibble lsb msb,
    fun h => ⟨combine_toNat_of_lt msb h, combine_eq_append_of_lt msb h⟩⟩⟩

end Sys2Proof.Machine
end

section
/-!
PROOFS, family 41_program_decoder.md. The shapes of a field as numbers (R304, R503 to R506), each on the pair of bytes
that its logical byte combines, and the fields of a decoded block read off row by row (R520 to R591); a block's record
reads its bytes 4 to 58 alone (R502, R509).
-/

namespace Sys2Proof.Machine

/-! ## The shapes of a field as numbers -/

/-- A mask of the low `n` bits is the remainder by `2 ^ n`. -/
theorem and_lowMask_toNat {w n : Nat} (hn : n ≤ w) (v : BitVec w) :
    (v &&& BitVec.ofNat w (2 ^ n - 1)).toNat = v.toNat % 2 ^ n := by
  have fits : 2 ^ n - 1 < 2 ^ w :=
    Nat.lt_of_lt_of_le (Nat.sub_one_lt (Nat.two_pow_pos n).ne') (Nat.pow_le_pow_right Nat.two_pos hn)
  rw [BitVec.toNat_and, BitVec.toNat_ofNat, Nat.mod_eq_of_lt fits, Nat.and_two_pow_sub_one_eq_mod]

/-- Appending `y` below `x` moves `x` up by the width of `y`. -/
theorem append_toNat {m n : Nat} (x : BitVec m) (y : BitVec n) : (x ++ y).toNat = x.toNat * 2 ^ n + y.toNat := by
  rw [BitVec.toNat_append, ← Nat.shiftLeft_add_eq_or_of_lt y.isLt, Nat.shiftLeft_eq]

theorem upperSix_toNat (d : Byte) : (upperSix d).toNat = d.toNat / 4 := by
  rw [upperSix, BitVec.toNat_setWidth, BitVec.toNat_ushiftRight, Nat.shiftRight_eq_div_pow]
  omega

theorem lowTwo_toNat (d : Byte) : (lowTwo d).toNat = d.toNat % 4 := by
  have mask : (d &&& 0x3).toNat = d.toNat % 4 := and_lowMask_toNat (n := 2) (by decide) d
  rw [lowTwo, BitVec.toNat_setWidth, mask, Nat.mod_mod]

theorem derivedFlag_toNat {w : Nat} (hw : 0 < w) (selector : BitVec w) (b : Nat) :
    (derivedFlag selector b).toNat = selector.toNat / 2 ^ b % 2 := by
  have mask : ((selector >>> b) &&& 1).toNat = (selector >>> b).toNat % 2 := and_lowMask_toNat (n := 1) hw _
  rw [derivedFlag, BitVec.toNat_setWidth, mask, Nat.mod_mod, BitVec.toNat_ushiftRight, Nat.shiftRight_eq_div_pow]

theorem derivedFlag_zero_toNat {w : Nat} (hw : 0 < w) (selector : BitVec w) :
    (derivedFlag selector 0).toNat = selector.toNat % 2 := by
  rw [derivedFlag_toNat hw, Nat.pow_zero, Nat.div_one]

/-- A flag of a logical byte and a derived flag of a selector take one bit the same way (R304, R585). -/
theorem flagBit_toNat (d : Byte) (b : Nat) : (flagBit d b).toNat = d.toNat / 2 ^ b % 2 :=
  derivedFlag_toNat (by decide) d b

theorem waveSelector_toNat (d d' : Byte) :
    (waveSelector d d').toNat = d.toNat % 4 * 2 + d'.toNat / 2 % 2 := by
  rw [waveSelector_eq_append, append_toNat, lowTwo_toNat, flagBit_toNat, Nat.pow_one]

theorem sixBitComposite_toNat (d d' d'' : Byte) :
    (sixBitComposite d d' d'').toNat = d.toNat % 4 * 16 + d'.toNat % 4 * 4 + d''.toNat % 4 := by
  rw [sixBitComposite_eq_append, append_toNat, append_toNat, lowTwo_toNat, lowTwo_toNat, lowTwo_toNat]
  omega

/-! ## The header -/

/-- The common term of R504 and R505 does not overflow a byte. -/
theorem groupOfIndex_toNat (index : Byte) : ((index >>> 3) + 1).toNat = index.toNat / 8 + 1 := by
  have one : (1 : Byte).toNat = 1 := rfl
  rw [BitVec.toNat_add, BitVec.toNat_ushiftRight, Nat.shiftRight_eq_div_pow, one]
  omega

theorem groupNumOf_toNat (index : Byte) : (groupNumOf index).toNat = index.toNat / 8 + 1 := by
  rw [groupNumOf, BitVec.toNat_setWidth, groupOfIndex_toNat]
  omega

theorem groupMaskOf_toNat (index : Byte) : (groupMaskOf index).toNat = (index.toNat / 8 + 1) % 16 := by
  have mask : (((index >>> 3) + 1) &&& 0xF).toNat = ((index >>> 3) + 1).toNat % 16 :=
    and_lowMask_toNat (n := 4) (by decide) _
  rw [groupMaskOf, BitVec.toNat_setWidth, mask, Nat.mod_mod, groupOfIndex_toNat]

theorem numberOf_toNat (index : Byte) : (numberOf index).toNat = index.toNat % 8 + 1 := by
  have mask : (index &&& 0x7).toNat = index.toNat % 8 := and_lowMask_toNat (n := 3) (by decide) index
  have one : (1 : Byte).toNat = 1 := rfl
  rw [numberOf, BitVec.toNat_setWidth, BitVec.toNat_add, mask, one]
  omega

/-- Settles O7: each header field is its function of byte 4. -/
theorem headerFieldsOfIndex : Obligations.HeaderFieldsOfIndex := fun blk =>
  ⟨rfl, groupNumOf_toNat (blk 4), groupMaskOf_toNat (blk 4), numberOf_toNat (blk 4)⟩

/-! ## The fields of a pair -/

/-- R304: the upper six bits of logical byte `k`, on the pair that it combines. -/
theorem upperSixOfPair_logicalByte (blk : Block) (k : Fin 27) :
    UpperSixOfPair (upperSix (logicalByte blk k)) (blk ⟨5 + 2 * k, by omega⟩) (blk ⟨6 + 2 * k, by omega⟩) :=
  upperSix_toNat (logicalByte blk k)

/-- Bits 3..0 of the combiner are those of `lsb`, so `msb` cannot affect a flag there (R400). -/
theorem flagBit_combine (lsb msb : Byte) {b : Nat} (hb : b < 4) : flagBit (combine lsb msb) b = flagBit lsb b := by
  have hge : ¬ 4 ≤ b := by omega
  have bit : (combine lsb msb).getLsbD b = lsb.getLsbD b := by
    rw [combine_getLsbD lsb msb (by omega), decide_eq_false hge, Bool.false_and, Bool.or_false]
  apply BitVec.eq_of_toNat_eq
  rw [flagBit_toNat, flagBit_toNat, ← Nat.toNat_testBit, ← Nat.toNat_testBit, BitVec.testBit_toNat,
    BitVec.testBit_toNat, bit]

/-- Bits 1..0 of the combiner are two flags, so they too are those of `lsb`. -/
theorem lowTwo_combine (lsb msb : Byte) : lowTwo (combine lsb msb) = lowTwo lsb := by
  rw [← flagBit_append_flagBit, flagBit_combine lsb msb (by decide), flagBit_combine lsb msb (by decide),
    flagBit_append_flagBit]

/-- R304: bit `b` of logical byte `k`, on the pair that it combines. -/
theorem flagOfPair_logicalByte {b : Nat} (hb : b < 4) (blk : Block) (k : Fin 27) :
    FlagOfPair (flagBit (logicalByte blk k) b) (blk ⟨5 + 2 * k, by omega⟩) (blk ⟨6 + 2 * k, by omega⟩) b := by
  refine ⟨flagBit_toNat _ b, ?_⟩
  rw [logicalByte, flagBit_combine _ _ hb, flagBit_toNat]

/-- Bits 1..0 of logical byte `k` are those of the low-nibble byte of its pair. -/
theorem logicalByte_mod_four (blk : Block) (k : Fin 27) :
    (logicalByte blk k).toNat % 4 = (blk ⟨5 + 2 * k, by omega⟩).toNat % 4 := by
  rw [← lowTwo_toNat, ← lowTwo_toNat, logicalByte, lowTwo_combine]

theorem lowTwo_logicalByte_toNat (blk : Block) (k : Fin 27) :
    (lowTwo (logicalByte blk k)).toNat = (blk ⟨5 + 2 * k, by omega⟩).toNat % 4 := by
  rw [lowTwo_toNat, logicalByte_mod_four]

theorem sixBitComposite_logicalByte_toNat (blk : Block) (i j k : Fin 27) :
    (sixBitComposite (logicalByte blk i) (logicalByte blk j) (logicalByte blk k)).toNat =
      (blk ⟨5 + 2 * i, by omega⟩).toNat % 4 * 16 + (blk ⟨5 + 2 * j, by omega⟩).toNat % 4 * 4 +
        (blk ⟨5 + 2 * k, by omega⟩).toNat % 4 := by
  rw [sixBitComposite_toNat, logicalByte_mod_four, logicalByte_mod_four, logicalByte_mod_four]

/-! ## The rows of the field table: each names its logical byte -/

/-- Settles O8: the rows of logical bytes 0 to 8. -/
theorem continuousFieldsFirstNine : Obligations.ContinuousFieldsFirstNine := by
  intro blk
  have upper := upperSixOfPair_logicalByte blk
  exact ⟨upper 0, upper 1, upper 2, upper 3, upper 4, upper 5, upper 6, upper 7, upper 8⟩

/-- Settles O9: the rows of logical bytes 9 to 17. -/
theorem continuousFieldsSecondNine : Obligations.ContinuousFieldsSecondNine := by
  intro blk
  have upper := upperSixOfPair_logicalByte blk
  exact ⟨upper 9, upper 10, upper 11, upper 12, upper 13, upper 14, upper 15, upper 16, upper 17⟩

/-- Settles O10: the rows of logical bytes 18 to 26. -/
theorem continuousFieldsThirdNine : Obligations.ContinuousFieldsThirdNine := by
  intro blk
  have upper := upperSixOfPair_logicalByte blk
  exact ⟨upper 18, upper 19, upper 20, upper 21, upper 22, upper 23, upper 24, upper 25, upper 26⟩

/-- Settles O11: the flags of logical bytes 1, 2 and 5 to 8. -/
theorem flagsFirstGroup : Obligations.FlagsFirstGroup := by
  intro blk
  have bit0 := flagOfPair_logicalByte (b := 0) (by decide) blk
  have bit1 := flagOfPair_logicalByte (b := 1) (by decide) blk
  exact ⟨bit0 1, bit1 2, bit0 2, bit1 5, bit0 5, bit1 6, bit0 6, bit1 7, bit0 7, bit1 8, bit0 8⟩

/-- Settles O12: the flags of logical bytes 9 to 11, 18, 20 and 21. -/
theorem flagsSecondGroup : Obligations.FlagsSecondGroup := by
  intro blk
  have bit0 := flagOfPair_logicalByte (b := 0) (by decide) blk
  have bit1 := flagOfPair_logicalByte (b := 1) (by decide) blk
  exact ⟨bit1 9, bit0 9, bit1 10, bit0 10, bit1 11, bit0 11, bit1 18, bit0 18, bit0 20, bit1 21, bit0 21⟩

/-- Settles O13: the flags of logical bytes 22 to 26. -/
theorem flagsThirdGroup : Obligations.FlagsThirdGroup := by
  intro blk
  have bit0 := flagOfPair_logicalByte (b := 0) (by decide) blk
  have bit1 := flagOfPair_logicalByte (b := 1) (by decide) blk
  exact ⟨bit1 22, bit0 22, bit1 23, bit0 23, bit1 24, bit0 24, bit1 25, bit0 25, bit1 26, bit0 26⟩

/-- Settles O14: each selector and composite by its logical bytes, and where the spec says so by the bytes of the
block. -/
theorem selectorsAndComposites : Obligations.SelectorsAndComposites := fun blk =>
  ⟨⟨lowTwo_toNat _, lowTwo_logicalByte_toNat blk 3⟩, ⟨lowTwo_toNat _, lowTwo_logicalByte_toNat blk 4⟩,
    waveSelector_toNat _ _, waveSelector_toNat _ _,
    ⟨sixBitComposite_toNat _ _ _, sixBitComposite_logicalByte_toNat blk 12 13 14⟩,
    ⟨sixBitComposite_toNat _ _ _, sixBitComposite_logicalByte_toNat blk 15 16 17⟩⟩

/-- Settles O15: a derived flag is one bit of the selector beside it. -/
theorem derivedFlagsReadTheSelectors : Obligations.DerivedFlagsReadTheSelectors := fun _ =>
  ⟨derivedFlag_zero_toNat (by decide) _, derivedFlag_toNat (by decide) _ 1,
    derivedFlag_zero_toNat (by decide) _, derivedFlag_toNat (by decide) _ 1,
    derivedFlag_zero_toNat (by decide) _, derivedFlag_toNat (by decide) _ 1, derivedFlag_toNat (by decide) _ 2⟩

/-! ## The bytes a record depends on -/

/-- R509: a record is a function of the index byte and the 27 logical bytes. -/
theorem decodeProgram_congr {blk blk' : Block} (hindex : blk 4 = blk' 4) (hdata : logicalByte blk = logicalByte blk') :
    decodeProgram blk = decodeProgram blk' := by
  unfold decodeProgram
  rw [hindex, hdata]

/-- R501: the pairs of the 27 logical bytes stand at the offsets 5 to 58. -/
theorem logicalByte_congr {blk blk' : Block} (h : ∀ j : Fin 60, 5 ≤ j.val → j.val ≤ 58 → blk j = blk' j) :
    logicalByte blk = logicalByte blk' := by
  funext k
  unfold logicalByte
  rw [h ⟨5 + 2 * k, by omega⟩ (by grind) (by grind),
    h ⟨6 + 2 * k, by omega⟩ (by grind) (by grind)]

/-- Settles O16: byte 4 gives the index, the offsets 5 to 58 the logical bytes. -/
theorem decodeReadsOnlyFiftyFiveBytes : Obligations.DecodeReadsOnlyFiftyFiveBytes := fun _ _ h =>
  decodeProgram_congr (h 4 (by decide) (by decide))
    (logicalByte_congr fun j hlow hhigh => h j (by omega) hhigh)

/-! ## The group letters -/

/-- Filtering a list and mapping it is done entry by entry, in order. -/
theorem map_filter_cons {α β : Type} (f : α → β) (p : α → Bool) (x : α) (xs : List α) :
    ((x :: xs).filter p).map f = (if p x then [f x] else []) ++ (xs.filter p).map f := by
  rw [List.filter_cons]
  split <;> rfl

theorem groupLetters_eq_filter (m : BitVec 4) :
    groupLetters m =
      (([(.A, 0), (.B, 1), (.C, 2), (.D, 3)] : List (GroupLetter × Nat)).filter fun p => m.getLsbD p.2).map
        Prod.fst := by
  simp only [groupLetters, map_filter_cons, List.filter_nil, List.map_nil, List.append_nil, List.append_assoc]

/-- Settles O18: the four entries of the filtered list are the four letters. -/
theorem groupLettersOfMask : Obligations.GroupLettersOfMask :=
  ⟨groupLetters_eq_filter, rfl, rfl, rfl, rfl, rfl⟩

end Sys2Proof.Machine
end

section
/-!
PROOFS, family 42_bank_decoder.md, the single steps. The format check, START and the turn of SEQ as equations, one for
each outcome.
-/

namespace Sys2Proof.Machine

/-! ## Checked reads -/

theorem bufValid_eq_false {s : State} {a : Nat} : s.bufValid a = false ↔ s.buf.read a = none := by
  simp [State.bufValid]

/-- A run of checked reads depends on BUF_CAP and the bytes it reads alone. -/
theorem memReadMany_congr {s s' : State} (hconfig : s.config = s'.config) {a n : Nat}
    (h : ∀ j, j < n → s.buf.read (a + j) = s'.buf.read (a + j)) : memReadMany s a n = memReadMany s' a n := by
  induction n generalizing a with
  | zero => rfl
  | succ n ih =>
    have hfirst : memRead s a = memRead s' a := by
      unfold memRead
      rw [hconfig, show s.buf.read a = s'.buf.read a from h 0 (Nat.zero_lt_succ n)]
    have hrest : memReadMany s (a + 1) n = memReadMany s' (a + 1) n := by
      refine ih fun j hj => ?_
      rw [Nat.add_assoc, Nat.add_comm 1 j]
      exact h (j + 1) (Nat.succ_lt_succ hj)
    simp only [memReadMany, hfirst, hrest]

theorem memReadMany_of_written {s : State} {a n : Nat} (hcap : a + n ≤ s.config.bufCap)
    (h : ∀ j, j < n → s.bufValid (a + j) = true) : ∃ bytes, memReadMany s a n = .ok bytes := by
  refine ⟨(List.range n).map fun j => (s.buf.read (a + j)).getD 0,
    memReadMany_eq_ok.2 ⟨by simp, fun j hj => ⟨by omega, ?_⟩⟩⟩
  obtain ⟨v, hv⟩ := Option.isSome_iff_exists.1 (h j hj)
  simp [hj, hv]

theorem memReadMany_of_unwritten {s : State} {a n j : Nat} (hcap : a + n ≤ s.config.bufCap) (hj : j < n)
    (h : s.buf.read (a + j) = none) : memReadMany s a n = .error .uninitRead := by
  obtain ⟨b, hb⟩ := memReadMany_error_of hj (.inr h)
  rw [hb, memReadMany_error_uninit hcap hb]

/-! ## The format check -/

theorem fmtCauseBits_lenBad (lenBad magicBad : Bool) : (fmtCauseBits lenBad magicBad).getLsbD 0 = lenBad := by
  cases lenBad <;> cases magicBad <;> decide

theorem fmtCauseBits_magicBad (lenBad magicBad : Bool) : (fmtCauseBits lenBad magicBad).getLsbD 1 = magicBad := by
  cases lenBad <;> cases magicBad <;> decide

/-- The format check depends on LEN, BUF_CAP and BUF[0..3] alone. -/
theorem fmtCheck_congr {s s' : State} (hconfig : s.config = s'.config) (hlen : s.len = s'.len)
    (h : ∀ a, a < 4 → s.buf.read a = s'.buf.read a) : fmtCheck s = fmtCheck s' := by
  have hreads : memReadMany s 0 4 = memReadMany s' 0 4 :=
    memReadMany_congr hconfig fun j hj => by rw [Nat.zero_add]; exact h j hj
  simp only [fmtCheck, lenBad, hlen, hreads]

theorem lenBad_of_four_le {s : State} (h : 4 ≤ s.len.toNat) : lenBad s = decide (s.len.toNat % 60 ≠ 0) := by
  rw [lenBad, beq_eq_false_iff_ne.2 (by omega : s.len.toNat ≠ 0), Bool.false_or, Bool.eq_iff_iff]
  simp

theorem bytes_bne_magic (b0 b1 b2 b3 : Byte) :
    ([b0, b1, b2, b3] != magic) = decide (¬(b0 = 0xF0 ∧ b1 = 0x10 ∧ b2 = 0x01 ∧ b3 = 0x01)) := by
  rw [Bool.eq_iff_iff]
  simp only [magic, bne_iff_ne, ne_eq, List.cons.injEq, and_true, decide_eq_true_eq]

theorem fmtCheck_of_lt {s : State} (h : s.len.toNat < 4) : fmtCheck s = .ok 0b11 := by
  have hbad : lenBad s = true := by
    rw [← Bool.not_eq_false, lenBad_eq_false]
    omega
  unfold fmtCheck
  rw [if_pos h, hbad]
  rfl

theorem fmtCheck_of_unwritten {s : State} (hcap : 4 ≤ s.config.bufCap) (hlen : 4 ≤ s.len.toNat) {j : Nat} (hj : j < 4)
    (h : s.buf.read j = none) : fmtCheck s = .error .uninitRead := by
  unfold fmtCheck
  rw [if_neg (Nat.not_lt.2 hlen), memReadMany_of_unwritten (by omega) hj (by rwa [Nat.zero_add])]

theorem fmtCheck_of_bytes {s : State} (hcap : 4 ≤ s.config.bufCap) (hlen : 4 ≤ s.len.toNat) {b0 b1 b2 b3 : Byte}
    (h0 : s.buf.read 0 = some b0) (h1 : s.buf.read 1 = some b1) (h2 : s.buf.read 2 = some b2)
    (h3 : s.buf.read 3 = some b3) : fmtCheck s = .ok (fmtCauseBits (lenBad s) ([b0, b1, b2, b3] != magic)) := by
  have hbytes : memReadMany s 0 4 = .ok [b0, b1, b2, b3] := by
    refine memReadMany_eq_ok.2 ⟨rfl, fun j hj => ⟨by omega, ?_⟩⟩
    rw [Nat.zero_add]
    match j, hj with
    | 0, _ => exact h0
    | 1, _ => exact h1
    | 2, _ => exact h2
    | 3, _ => exact h3
  unfold fmtCheck
  rw [if_neg (Nat.not_lt.2 hlen), hbytes]

/-- R301: a valid header passes the format check. -/
theorem fmtCheck_of_headerGood {s : State} (hlen : s.len.toNat ≤ s.config.bufCap) (h : BankHeaderGood s) :
    fmtCheck s = .ok 0 := by
  obtain ⟨hpos, hmod, h0, h1, h2, h3⟩ := h
  have hgood : lenBad s = false := lenBad_eq_false.2 ⟨hmod, by omega⟩
  rw [fmtCheck_of_bytes (by omega) (by omega) h0 h1 h2 h3, hgood]
  rfl

/-- Settles O30: below LEN 4 there is no read; from LEN 4 up the four reads give the fault or the two causes. -/
theorem formatCheck : Obligations.FormatCheck := by
  intro s hcap
  refine ⟨fmtCheck_of_lt, fun hlen ⟨j, hj, h⟩ => fmtCheck_of_unwritten hcap hlen hj h, ?_⟩
  intro hlen b0 b1 b2 b3 h0 h1 h2 h3
  refine ⟨_, fmtCheck_of_bytes hcap hlen h0 h1 h2 h3, ?_, ?_⟩
  · rw [fmtCauseBits_lenBad, lenBad_of_four_le hlen]
  · rw [fmtCauseBits_magicBad, bytes_bne_magic]

/-! ## START -/

theorem exec_start_of_busy {s : State} (hf : s.fault = 0) (hp : s.phase = .busy) :
    exec .start s = .next (s.raiseFault .busyViolation) := by
  show execStart s = _
  unfold execStart
  rw [command_of_noFault hf, if_pos hp, settle_error]

theorem exec_start_of_check_error {s : State} (hf : s.fault = 0) (hp : s.phase ≠ .busy) {b : FaultBit}
    (hb : fmtCheck s = .error b) : exec .start s = .next (s.raiseFault b) := by
  show execStart s = _
  unfold execStart
  rw [command_of_noFault hf, if_neg hp, hb]
  rfl

theorem exec_start_of_check_ok {s : State} (hf : s.fault = 0) (hp : s.phase ≠ .busy) {c : BitVec 2}
    (hc : fmtCheck s = .ok c) : exec .start s = .next ((s.beginDecode c).respond 0) := by
  show execStart s = _
  unfold execStart
  rw [command_of_noFault hf, if_neg hp, hc]
  rfl

/-- The must-be-zero bits of START are all bits below its operation code (R309). -/
theorem commandStep_of_op_start {w : HostWord} (hop : cmdOp w = 0x5) {s : State} (hf : s.fault = 0) :
    commandStep w s = if cmdLow w = 0 then exec .start s else .next (s.raiseFault .illegalCmd) := by
  have hdecode := decode_of_op_start hop
  split
  · rename_i hlow
    exact commandStep_of_decode_ok (hdecode.trans (ifZero_of_eq_zero hlow)) s
  · rename_i hlow
    rw [commandStep_of_decode_error (hdecode.trans (ifZero_eq_error.2 ⟨beq_eq_false_iff_ne.2 hlow, rfl⟩)),
      execMalformed_eq, if_neg fun h => h.1 hf]

/-- Settles O31: START by its three outcomes, and its word by the must-be-zero bits. -/
theorem startCommand : Obligations.StartCommand := by
  intro s hf
  refine ⟨?_, fun w hop => ?_⟩
  · by_cases hp : s.phase = .busy
    · rw [if_pos hp, exec_start_of_busy hf hp, raiseFault_of_noFault hf]
      rfl
    · rw [if_neg hp]
      cases hc : fmtCheck s with
      | error b => rw [exec_start_of_check_error hf hp hc, raiseFault_of_noFault hf]
      | ok c => exact exec_start_of_check_ok hf hp hc
  · rw [commandStep_of_op_start hop hf, raiseFault_of_noFault hf]
    rfl

/-! ## The turn of SEQ -/

/-- The 55 reads of a SEQ step depend on BUF_CAP and those 55 bytes alone (R603). -/
theorem readBlock_congr {s s' : State} (hconfig : s.config = s'.config) {base : Nat}
    (h : ∀ j, 4 ≤ j → j ≤ 58 → s.buf.read (base + j) = s'.buf.read (base + j)) :
    readBlock s base = readBlock s' base := by
  have hreads : memReadMany s (base + 4) 55 = memReadMany s' (base + 4) 55 :=
    memReadMany_congr hconfig fun j hj => by
      rw [Nat.add_assoc]
      exact h (4 + j) (by omega) (by omega)
  simp only [readBlock, hreads]

/-- The block that a SEQ step reads decodes as the block of BUF: the two differ at most at the five offsets that no
field reads (R502). -/
theorem decodeProgram_of_readBlock {s : State} {i : Nat} {blk : Block} (h : readBlock s (60 * i) = .ok blk) :
    decodeProgram blk = decodeProgram (s.block i) := by
  refine decodeReadsOnlyFiftyFiveBytes _ _ fun j h4 h58 => ?_
  obtain ⟨-, hread⟩ := readBlock_eq_ok h j h4 h58
  simp only [State.block, hread, Option.getD_some]

theorem readBlock_of_written {s : State} {base : Nat} (hcap : base + 59 ≤ s.config.bufCap)
    (h : ∀ j, 4 ≤ j → j ≤ 58 → s.bufValid (base + j) = true) : ∃ blk, readBlock s base = .ok blk := by
  obtain ⟨bytes, hbytes⟩ : ∃ bytes, memReadMany s (base + 4) 55 = .ok bytes :=
    memReadMany_of_written (by omega) fun j hj => by
      rw [Nat.add_assoc]
      exact h (4 + j) (by omega) (by omega)
  unfold readBlock
  rw [hbytes]
  exact ⟨_, rfl⟩

theorem readBlock_of_unwritten {s : State} {base j : Nat} (hcap : base + 59 ≤ s.config.bufCap) (h4 : 4 ≤ j)
    (h58 : j ≤ 58) (h : s.buf.read (base + j) = none) : readBlock s base = .error .uninitRead := by
  have hoffset : base + 4 + (j - 4) = base + j := by omega
  have hreads : memReadMany s (base + 4) 55 = .error .uninitRead :=
    memReadMany_of_unwritten (j := j - 4) (by omega) (by omega) (by rwa [hoffset])
  unfold readBlock
  rw [hreads]

/-- R111 (c): in BUSY there is a block left to decode. -/
theorem nrec_lt_of_busy {s : State} (hs : RegistersConsistent s) (hp : s.phase = .busy) :
    s.nrec.toNat < s.len.toNat / 60 := by
  obtain ⟨-, -, -, hb, -⟩ := hs
  obtain ⟨-, -, -, hlt⟩ := hb hp
  exact hlt

/-- In BUSY the block at NREC lies below BUF_CAP. -/
theorem block_le_bufCap_of_busy {s : State} (hs : RegistersConsistent s) (hp : s.phase = .busy) :
    60 * s.nrec.toNat + 59 ≤ s.config.bufCap := by
  have hlt := nrec_lt_of_busy hs hp
  obtain ⟨hlen, -⟩ := hs
  omega

theorem seqTurn_of_disabled {s : State} (h : s.phase ≠ .busy ∨ s.fault ≠ 0) : seqTurn s = .next s := by
  refine if_neg fun he => ?_
  obtain ⟨hp, hf⟩ := seqEnabled_iff.1 he
  exact h.elim (· hp) (· hf)

theorem seqTurn_of_readBlock_ok {s : State} (hp : s.phase = .busy) (hf : s.fault = 0) {blk : Block}
    (hblk : readBlock s (60 * s.nrec.toNat) = .ok blk) (hcap : s.nrec.toNat < s.config.recCap) :
    seqTurn s = .next (s.storeRecord (decodeProgram blk)) := by
  unfold seqTurn seqStep
  rw [if_pos (seqEnabled_iff.2 ⟨hp, hf⟩), hblk]
  exact if_pos hcap

theorem seqTurn_of_readBlock_error {s : State} (hp : s.phase = .busy) (hf : s.fault = 0) {b : FaultBit}
    (hb : readBlock s (60 * s.nrec.toNat) = .error b) : seqTurn s = .next (s.raiseSeqFault b) := by
  unfold seqTurn seqStep
  rw [if_pos (seqEnabled_iff.2 ⟨hp, hf⟩), hb]

theorem seqTurn_of_written {s : State} (hs : RegistersConsistent s) (hp : s.phase = .busy) (hf : s.fault = 0)
    (h : ∀ j, 4 ≤ j → j ≤ 58 → s.bufValid (60 * s.nrec.toNat + j) = true) :
    seqTurn s = .next (s.storeRecord (decodeProgram (s.block s.nrec.toNat))) := by
  obtain ⟨blk, hblk⟩ := readBlock_of_written (block_le_bufCap_of_busy hs hp) h
  rw [seqTurn_of_readBlock_ok hp hf hblk (nrec_lt_recCap_of_busy hs hp), decodeProgram_of_readBlock hblk]

theorem seqTurn_of_unwritten {s : State} (hs : RegistersConsistent s) (hp : s.phase = .busy) (hf : s.fault = 0)
    {j : Nat} (h4 : 4 ≤ j) (h58 : j ≤ 58) (h : s.buf.read (60 * s.nrec.toNat + j) = none) :
    seqTurn s = .next (s.raiseSeqFault .uninitRead) :=
  seqTurn_of_readBlock_error hp hf
    (readBlock_of_unwritten (block_le_bufCap_of_busy hs hp) h4 h58 h)

/-- Settles O32: the turn of SEQ by its three outcomes. -/
theorem seqStepDecodesOneBlock : Obligations.SeqStepDecodesOneBlock := by
  refine ⟨fun s hs hp hf => ⟨fun h => ?_, fun ⟨j, h4, h58, h⟩ => ?_⟩, fun s h => seqTurn_of_disabled h,
    fun recs k r x => Store.read_write recs k r x⟩
  · rw [seqTurn_of_written hs hp hf h, State.storeRecord, hp]
  · rw [seqTurn_of_unwritten hs hp hf h4 h58 (bufValid_eq_false.1 h), State.raiseSeqFault, hf]
    rfl

/-- Settles O47: of all effects of a step, SEQ's record alone sets STATE to DONE, and only where NREC reaches
LEN div 60. -/
theorem doneOnlyByTheLastSeqStep : Obligations.DoneOnlyByTheLastSeqStep := by
  intro s t h hs ht
  obtain rfl | ⟨-, -, b, -, rfl⟩ | ⟨hp, hf, blk, -, -, rfl⟩ | ⟨-, rfl⟩ | ⟨-, rfl⟩ | ⟨b, -, rfl⟩ |
    ⟨w, i, -, -, -, heffect⟩ := step_effects h rfl
  · exact absurd ht hs
  · exact absurd ht hs
  · have hlast : s.nrec.toNat + 1 = s.len.toNat / 60 := by
      by_contra hne
      exact hs ((if_neg hne).symm.trans ht)
    exact ⟨hp, hf, hlast, rfl, _, rfl⟩
  · cases ht
  · exact absurd ht hs
  · exact absurd ht hs
  · cases heffect with
    | answers _ w => exact absurd ht hs
    | writesByte a d hbusy hcap => exact absurd ht hs
    | setsLength n hbusy hcap => exact absurd ht hs
    | beginsDecode cause hbusy hcheck =>
      rw [State.respond_phase, State.beginDecode_phase] at ht
      split at ht <;> cases ht

end Sys2Proof.Machine
end

section
/-!
PROOFS, family 42_bank_decoder.md, the runs. A bank decode is START and then one turn of SEQ for each block; a state that
shows SEQ's work so far is described against the state in which SEQ began, and a second run is kept beside the first.
-/

namespace Sys2Proof.Machine

/-! ## Steps of a run -/

section
variable {M : Host.Core} {s t : M.State} {n : Nat}

theorem run_succ_of_step (h : M.step s = .next t) (n : Nat) : M.run (n + 1) s = M.run n t := by
  rw [Host.Core.run, h]

/-- A run goes on by one step from where it has come to. -/
theorem run_succ_of_run (h : M.run n s = .next t) : M.run (n + 1) s = M.step t := by
  induction n generalizing s with
  | zero =>
    cases h
    rw [Host.Core.run]
    cases M.step t <;> simp only [Host.Core.run]
  | succ n ih =>
    rw [Host.Core.run] at h
    split at h
    · rename_i u hu
      exact (run_succ_of_step hu (n + 1)).trans (ih h)
    · cases h
    · cases h

theorem run_succ_cases (h : M.run (n + 1) s = .next t) : ∃ u, M.step s = .next u ∧ M.run n u = .next t := by
  rw [Host.Core.run] at h
  split at h
  · rename_i u hu
    exact ⟨u, hu, h⟩
  · cases h
  · cases h

end

/-- With nothing pending and SEQ not enabled the block waits (log 10). -/
theorem run_of_waiting {s : State} (hpending : s.pending = []) (h : s.phase ≠ .busy ∨ s.fault ≠ 0) (n : Nat) :
    core.run n s = .next s := by
  induction n with
  | zero => rfl
  | succ n ih => exact (run_succ_of_run ih).trans ((step_of_pending_nil hpending).trans (seqTurn_of_disabled h))

/-! ## START as the one coming event -/

/-- START is the one coming event, and the block is ready for it. -/
structure StartPending (s : State) : Prop where
  notBusy : s.phase ≠ .busy
  noFault : s.fault = 0
  pending : s.pending = [.command 0x50000000]

/-- The state after a START whose format check gave `c` (R602). -/
def State.started (s : State) (c : BitVec 2) : State := ((s.setPending []).beginDecode c).respond 0

theorem nrec_started_toNat (s : State) (c : BitVec 2) : (s.started c).nrec.toNat = 0 := rfl

theorem decode_start : decode 0x50000000 = .ok .start := by decide

theorem step_of_startPending {s : State} (h : StartPending s) {c : BitVec 2} (hc : fmtCheck s = .ok c) :
    step s = .next (s.started c) := by
  have hcheck : fmtCheck (s.setPending []) = .ok c := (fmtCheck_congr rfl rfl fun _ _ => rfl).trans hc
  rw [step_of_pending_cons h.pending]
  exact (commandStep_of_decode_ok decode_start _).trans
    (exec_start_of_check_ok (s := s.setPending []) h.noFault h.notBusy hcheck)

theorem registersConsistent_started {s : State} (hlen : s.len.toNat ≤ s.config.bufCap) {c : BitVec 2}
    (hc : fmtCheck s = .ok c) : RegistersConsistent (s.started c) :=
  registersConsistent_keptByUpdates.respond _ 0
    (registersConsistent_beginDecode hlen ((fmtCheck_congr rfl rfl fun _ _ => rfl).trans hc))

/-! ## A failed format check -/

/-- START alone sets STATE to FMT_ERR, and it has its effect outside BUSY only. -/
theorem phase_ne_fmtErr_of_busy {s t : State} (hp : s.phase = .busy) (h : step s = .next t) : t.phase ≠ .fmtErr := by
  have kept : s.phase ≠ .fmtErr := by rw [hp]; decide
  obtain rfl | ⟨-, -, b, -, rfl⟩ | ⟨-, -, blk, -, -, rfl⟩ | ⟨-, rfl⟩ | ⟨-, rfl⟩ | ⟨b, -, rfl⟩ |
    ⟨w, i, -, -, -, heffect⟩ := step_effects h rfl
  · exact kept
  · exact kept
  · rw [State.storeRecord_phase]
    split
    · decide
    · exact kept
  · exact nofun
  · exact kept
  · exact kept
  · cases heffect with
    | answers _ w => exact kept
    | writesByte a d hbusy hcap => exact absurd hp hbusy
    | setsLength n hbusy hcap => exact absurd hp hbusy
    | beginsDecode cause hbusy hcheck => exact absurd hp hbusy

/-- Settles O59: START goes to FMT_ERR, where the block waits for its host. -/
theorem noPartialDecode : Obligations.NoPartialDecode := by
  refine ⟨fun s c hp hf hpending hc hne n => ⟨s.started c, ?_, if_neg hne, rfl, rfl, hf, rfl⟩,
    fun s t hp h => phase_ne_fmtErr_of_busy hp h⟩
  have hphase : (s.started c).phase = .fmtErr := if_neg hne
  exact (run_succ_of_step (M := core) (step_of_startPending ⟨hp, hf, hpending⟩ hc) n).trans
    (run_of_waiting rfl (.inl (by rw [hphase]; decide)) n)

/-! ## The run of a decode -/

theorem block_congr {s t : State} (h : t.buf = s.buf) : t.block = s.block := by
  unfold State.block
  rw [h]

theorem record_storeRecord (s : State) (r : ProgramRecord) (i : Nat) :
    (s.storeRecord r).record i = if i = s.nrec.toNat then r else s.record i := by
  unfold State.record
  rw [State.storeRecord_records, Store.read_write]
  split <;> rfl

/-- R111 (c): in BUSY, NREC + 1 does not wrap. -/
theorem nrec_storeRecord_toNat {s : State} (h : s.nrec.toNat < s.len.toNat / 60) (r : ProgramRecord) :
    (s.storeRecord r).nrec.toNat = s.nrec.toNat + 1 := by
  have := s.len.isLt
  exact BitVec.toNat_add_of_lt (by simp; omega)

/-- SEQ has blocks to decode, nothing comes between its turns, and every byte it reads is written. -/
structure Decoding (s : State) : Prop where
  consistent : RegistersConsistent s
  busy : s.phase = .busy
  noFault : s.fault = 0
  pending : s.pending = []
  written : BlocksWritten s

/-- `t` is `s` with `k` more blocks decoded. -/
structure BlocksDecoded (s : State) (k : Nat) (t : State) : Prop where
  config : t.config = s.config
  buf : t.buf = s.buf
  len : t.len = s.len
  fmtCause : t.fmtCause = s.fmtCause
  fault : t.fault = s.fault
  pending : t.pending = s.pending
  nrec : t.nrec.toNat = s.nrec.toNat + k
  phase : t.phase = if s.nrec.toNat + k = s.len.toNat / 60 then .done else .busy
  decoded : ∀ i, s.nrec.toNat ≤ i → i < s.nrec.toNat + k → t.record i = decodeProgram (s.block i)
  earlier : ∀ i, i < s.nrec.toNat → t.record i = s.record i

theorem Decoding.nrec_lt {s : State} (h : Decoding s) : s.nrec.toNat < s.len.toNat / 60 :=
  nrec_lt_of_busy h.consistent h.busy

theorem Decoding.fmtCause {s : State} (h : Decoding s) : s.fmtCause = 0 := by
  obtain ⟨-, -, -, hb, -⟩ := h.consistent
  obtain ⟨hcause, -⟩ := hb h.busy
  exact hcause

theorem BlocksDecoded.refl {s : State} (h : Decoding s) : BlocksDecoded s 0 s where
  config := rfl
  buf := rfl
  len := rfl
  fmtCause := rfl
  fault := rfl
  pending := rfl
  nrec := rfl
  phase := by rw [Nat.add_zero, if_neg h.nrec_lt.ne, h.busy]
  decoded _ hlow hhigh := absurd hlow (Nat.not_le.2 hhigh)
  earlier _ _ := rfl

/-- Before the last block SEQ is still decoding. -/
theorem BlocksDecoded.decoding {s t : State} {k : Nat} (h : BlocksDecoded s k t) (hs : Decoding s)
    (hk : s.nrec.toNat + k < s.len.toNat / 60) : Decoding t := by
  have hbusy : t.phase = .busy := h.phase.trans (if_neg hk.ne)
  obtain ⟨hlen, -, -, hb, -⟩ := hs.consistent
  obtain ⟨hcause, hmod, hpos, -⟩ := hb hs.busy
  refine ⟨registersConsistent_of_busy hbusy ?_ ⟨h.fmtCause.trans hcause, ?_, ?_, ?_⟩, hbusy, h.fault.trans hs.noFault,
    h.pending.trans hs.pending, fun i j => ?_⟩
  · rwa [h.len, h.config]
  · rwa [h.len]
  · rwa [h.len]
  · rwa [h.len, h.nrec]
  · rw [h.len, State.bufValid, h.buf]
    exact hs.written i j

/-- The record of the next block. -/
theorem BlocksDecoded.storeRecord {s t : State} {k : Nat} (h : BlocksDecoded s k t)
    (hk : s.nrec.toNat + k < s.len.toNat / 60) :
    BlocksDecoded s (k + 1) (t.storeRecord (decodeProgram (t.block t.nrec.toNat))) where
  config := h.config
  buf := h.buf
  len := h.len
  fmtCause := h.fmtCause
  fault := h.fault
  pending := h.pending
  nrec := by rw [nrec_storeRecord_toNat (by rwa [h.nrec, h.len]), h.nrec, Nat.add_assoc]
  phase := by rw [State.storeRecord_phase, h.phase, if_neg hk.ne, h.nrec, h.len, Nat.add_assoc]
  decoded i hlow hhigh := by
    rw [record_storeRecord, h.nrec, block_congr h.buf]
    split
    · rename_i hi
      rw [hi]
    · exact h.decoded i hlow (by omega)
  earlier i hi := by
    rw [record_storeRecord, h.nrec, if_neg (by omega)]
    exact h.earlier i hi

/-- R604, R611: `k` turns of SEQ decode `k` blocks, up to the last one. -/
theorem Decoding.run {s : State} (hs : Decoding s) {k : Nat} (hk : s.nrec.toNat + k ≤ s.len.toNat / 60) :
    ∃ t, core.run k s = .next t ∧ BlocksDecoded s k t := by
  induction k with
  | zero => exact ⟨s, rfl, .refl hs⟩
  | succ k ih =>
    obtain ⟨t, hrun, ht⟩ := ih (by omega)
    have htd := ht.decoding hs hk
    refine ⟨_, ?_, ht.storeRecord hk⟩
    have hturn := seqTurn_of_written htd.consistent htd.busy htd.noFault (htd.written _ · htd.nrec_lt)
    exact (run_succ_of_run hrun).trans ((step_of_pending_nil htd.pending).trans hturn)

/-- Settles O55: the run from BUSY, up to a block before the last one and to the last one. -/
theorem bankDecodeFromBusy : Obligations.BankDecodeFromBusy := by
  intro s hcons hp hf hpending hwritten
  have hs : Decoding s := ⟨hcons, hp, hf, hpending, hwritten⟩
  have hlt := hs.nrec_lt
  refine ⟨fun n hn => ?_, ?_⟩
  · obtain ⟨t, hrun, ht⟩ := hs.run (k := n) (by omega)
    exact ⟨t, hrun, ht.phase.trans (if_neg (by omega)), ht.nrec⟩
  · have hlast : s.nrec.toNat + (s.len.toNat / 60 - s.nrec.toNat) = s.len.toNat / 60 := by omega
    obtain ⟨t, hrun, ht⟩ := hs.run hlast.le
    exact ⟨t, hrun, ht.phase.trans (if_pos hlast), ht.nrec.trans hlast, ht.fault.trans hf, ht.fmtCause.trans hs.fmtCause,
      ht.buf, ht.len, fun i hlow hhigh => ht.decoded i hlow (by omega), ht.earlier⟩

/-! ## From START -/

/-- R301, R903: START is the one coming event, with a valid bank in BUF. -/
structure BankStartPending (s : State) : Prop extends StartPending s where
  len : s.len.toNat ≤ s.config.bufCap
  header : BankHeaderGood s
  written : BlocksWritten s

theorem BankStartPending.step {s : State} (h : BankStartPending s) : step s = .next (s.started 0) :=
  step_of_startPending h.toStartPending (fmtCheck_of_headerGood h.len h.header)

theorem BankStartPending.decoding {s : State} (h : BankStartPending s) : Decoding (s.started 0) :=
  ⟨registersConsistent_started h.len (fmtCheck_of_headerGood h.len h.header), rfl, h.noFault, rfl, h.written⟩

/-- R605: START and `k` turns of SEQ decode the first `k` blocks. -/
theorem BankStartPending.run {s : State} (h : BankStartPending s) {k : Nat} (hk : k ≤ s.len.toNat / 60) :
    ∃ t, core.run (k + 1) s = .next t ∧ BlocksDecoded (s.started 0) k t := by
  obtain ⟨t, hrun, ht⟩ := h.decoding.run (k := k) (by rwa [nrec_started_toNat, Nat.zero_add])
  exact ⟨t, (run_succ_of_step (M := core) h.step k).trans hrun, ht⟩

/-- `t` is the end of the decode of the bank in `s`. -/
structure BankDecoded (s t : State) : Prop where
  config : t.config = s.config
  buf : t.buf = s.buf
  len : t.len = s.len
  pending : t.pending = []
  fault : t.fault = 0
  phase : t.phase = .done
  fmtCause : t.fmtCause = 0
  nrec : t.nrec.toNat = s.len.toNat / 60
  records : ∀ i, i < s.len.toNat / 60 → t.record i = decodeProgram (s.block i)

theorem BankStartPending.run_to_end {s : State} (h : BankStartPending s) :
    ∃ t, core.run (s.len.toNat / 60 + 1) s = .next t ∧ BankDecoded s t := by
  obtain ⟨t, hrun, ht⟩ := h.run le_rfl
  exact ⟨t, hrun,
    { config := ht.config
      buf := ht.buf
      len := ht.len
      pending := ht.pending
      fault := ht.fault.trans h.noFault
      phase := ht.phase.trans (if_pos (Nat.zero_add _))
      fmtCause := ht.fmtCause
      nrec := ht.nrec.trans (Nat.zero_add _)
      records := fun i hi => ht.decoded i (Nat.zero_le i) (by rwa [nrec_started_toNat, Nat.zero_add]) }⟩

/-- Settles O56: the run from BUSY after START, where NREC is 0. -/
theorem bankDecodeFromStart : Obligations.BankDecodeFromStart := by
  intro s hp hf hlen hheader hwritten hpending
  have hs : BankStartPending s := ⟨⟨hp, hf, hpending⟩, hlen, hheader, hwritten⟩
  refine ⟨fun n hn => ?_, ?_⟩
  · obtain ⟨t, hrun, ht⟩ := hs.run hn.le
    exact ⟨t, hrun, ht.phase.trans (if_neg (by rw [nrec_started_toNat, Nat.zero_add]; exact hn.ne)),
      ht.nrec.trans (Nat.zero_add n)⟩
  · obtain ⟨t, hrun, ht⟩ := hs.run_to_end
    exact ⟨t, hrun, ht.phase, ht.nrec, ht.fault, ht.records⟩

/-! ## A second decode of the same buffer -/

theorem runResult_congr {s t : State} (hphase : s.phase = t.phase) (hcause : s.fmtCause = t.fmtCause)
    (hnrec : s.nrec = t.nrec) (hrecords : ∀ i, i < t.nrec.toNat → s.record i = t.record i) :
    runResult s = runResult t := by
  have hlist : (List.range t.nrec.toNat).map s.record = (List.range t.nrec.toNat).map t.record :=
    List.map_congr_left fun i hi => hrecords i (List.mem_range.1 hi)
  unfold runResult
  rw [hphase, hcause, hnrec, hlist]

/-- R608: the result of a decode is a function of the buffer and LEN. -/
theorem BankDecoded.runResult_eq {s s' t u : State} (ht : BankDecoded s t) (hu : BankDecoded s' u)
    (hbuf : s'.buf = s.buf) (hlen : s'.len = s.len) : runResult u = runResult t := by
  refine runResult_congr (hu.phase.trans ht.phase.symm) (hu.fmtCause.trans ht.fmtCause.symm)
    (BitVec.eq_of_toNat_eq ?_) fun i hi => ?_
  · rw [hu.nrec, ht.nrec, hlen]
  · rw [ht.nrec] at hi
    rw [hu.records i (by rwa [hlen]), ht.records i hi, block_congr hbuf]

/-- A decode leaves BUF and LEN, so the bank it decoded can be decoded again. -/
theorem BankDecoded.startPending_again {s t : State} (h : BankDecoded s t) (hs : BankStartPending s) :
    BankStartPending (t.issue 0x50000000) where
  notBusy := by
    show t.phase ≠ .busy
    rw [h.phase]
    decide
  noFault := h.fault
  pending := congrArg (Event.command 0x50000000 :: ·) h.pending
  len := by
    show t.len.toNat ≤ t.config.bufCap
    rw [h.len, h.config]
    exact hs.len
  header := by
    show BankHeaderGood t
    rw [BankHeaderGood, h.len, h.buf]
    exact hs.header
  written := by
    show BlocksWritten t
    simp only [BlocksWritten, State.bufValid, h.len, h.buf]
    exact hs.written

/-- Settles O57: the second decode is one of the same buffer and LEN. -/
theorem secondDecodeIsIdentical : Obligations.SecondDecodeIsIdentical := by
  intro s hp hf hlen hheader hwritten hpending
  have hs : BankStartPending s := ⟨⟨hp, hf, hpending⟩, hlen, hheader, hwritten⟩
  obtain ⟨t, hrun, ht⟩ := hs.run_to_end
  obtain ⟨u, hrun', hu⟩ := (ht.startPending_again hs).run_to_end
  have hlen' : (t.issue 0x50000000).len = s.len := ht.len
  rw [hlen'] at hrun'
  exact ⟨t, u, hrun, ⟨ht.fault, .inl ht.phase⟩, ht.phase, hrun', ht.runResult_eq hu ht.buf hlen'⟩

/-! ## Two decodes that see the same bytes -/

/-- Two decodes in step: they agree in every register, in the records made so far, and in the bytes that SEQ reads. -/
structure SameDecode (s s' : State) : Prop where
  config : s'.config = s.config
  len : s'.len = s.len
  phase : s'.phase = s.phase
  nrec : s'.nrec = s.nrec
  fmtCause : s'.fmtCause = s.fmtCause
  fault : s'.fault = s.fault
  pending : s.pending = []
  pending' : s'.pending = []
  records : ∀ i, i < s.nrec.toNat → s'.record i = s.record i
  blocks : ∀ i j, i < s.len.toNat / 60 → 4 ≤ j → j ≤ 58 → s'.buf.read (60 * i + j) = s.buf.read (60 * i + j)

theorem SameDecode.readBlock_eq {s s' : State} (h : SameDecode s s') (hnrec : s.nrec.toNat < s.len.toNat / 60) :
    readBlock s' (60 * s'.nrec.toNat) = readBlock s (60 * s.nrec.toNat) := by
  rw [h.nrec]
  exact readBlock_congr h.config (h.blocks s.nrec.toNat · hnrec)

theorem SameDecode.raiseSeqFault {s s' : State} (h : SameDecode s s') (b : FaultBit) :
    SameDecode (s.raiseSeqFault b) (s'.raiseSeqFault b) :=
  { h with fault := congrArg (· ||| b.mask) h.fault }

theorem SameDecode.storeRecord {s s' : State} (h : SameDecode s s') (hnrec : s.nrec.toNat < s.len.toNat / 60)
    (r : ProgramRecord) : SameDecode (s.storeRecord r) (s'.storeRecord r) :=
  { h with
    phase := by simp only [State.storeRecord_phase, h.nrec, h.len, h.phase]
    nrec := congrArg (· + 1) h.nrec
    records := fun i hi => by
      rw [nrec_storeRecord_toNat hnrec] at hi
      rw [record_storeRecord, record_storeRecord, h.nrec]
      split
      · rfl
      · exact h.records i (by omega) }

/-- The turns of SEQ in the two decodes have the same outcome. -/
theorem SameDecode.step {s s' t : State} (h : SameDecode s s') (hs : RegistersConsistent s)
    (hstep : step s = .next t) : ∃ t', step s' = .next t' ∧ SameDecode t t' := by
  rw [step_of_pending_nil h.pending] at hstep
  rw [step_of_pending_nil h.pending']
  by_cases henabled : s.phase = .busy ∧ s.fault = 0
  · obtain ⟨hp, hf⟩ := henabled
    have hnrec := nrec_lt_of_busy hs hp
    have hblock := h.readBlock_eq hnrec
    cases hread : readBlock s (60 * s.nrec.toNat) with
    | error b =>
      obtain rfl : s.raiseSeqFault b = t := by simpa [seqTurn_of_readBlock_error hp hf hread] using hstep
      exact ⟨_, seqTurn_of_readBlock_error (h.phase.trans hp) (h.fault.trans hf) (hblock.trans hread), h.raiseSeqFault b⟩
    | ok blk =>
      have hcap := nrec_lt_recCap_of_busy hs hp
      obtain rfl : s.storeRecord (decodeProgram blk) = t := by
        simpa [seqTurn_of_readBlock_ok hp hf hread hcap] using hstep
      exact ⟨_, seqTurn_of_readBlock_ok (h.phase.trans hp) (h.fault.trans hf) (hblock.trans hread)
        (by rwa [h.nrec, h.config]), h.storeRecord hnrec _⟩
  · have hdisabled : s.phase ≠ .busy ∨ s.fault ≠ 0 := not_and_or.1 henabled
    obtain rfl : s = t := by simpa [seqTurn_of_disabled hdisabled] using hstep
    exact ⟨s', seqTurn_of_disabled (by rwa [h.phase, h.fault]), h⟩

theorem SameDecode.run {n : Nat} {s s' t : State} (h : SameDecode s s') (hs : RegistersConsistent s)
    (hrun : core.run n s = .next t) : ∃ t', core.run n s' = .next t' ∧ SameDecode t t' := by
  induction n generalizing s s' with
  | zero =>
    cases hrun
    exact ⟨s', rfl, h⟩
  | succ n ih =>
    obtain ⟨u, hstep, hrest⟩ := run_succ_cases hrun
    obtain ⟨u', hstep', hu⟩ := h.step hs hstep
    obtain ⟨t', hrest', ht⟩ := ih hu (registersConsistent_keptByUpdates.step hs hstep) hrest
    exact ⟨t', (run_succ_of_step (M := core) hstep' n).trans hrest', ht⟩

theorem SameDecode.runResult_eq {s s' : State} (h : SameDecode s s') : runResult s' = runResult s :=
  runResult_congr h.phase h.fmtCause h.nrec h.records

/-- Settles O58: after START, which sets every register of a decode, the two runs are decodes in step. -/
theorem bankDecodeReadsOnlyItsBytes : Obligations.BankDecodeReadsOnlyItsBytes := by
  intro s s' hconfig hlen hcap hp hp' hf hf' hpending hpending' hmagic hblocks ⟨c, hc⟩ n t hrun
  have hc' : fmtCheck s' = .ok c := (fmtCheck_congr hconfig hlen hmagic).symm.trans hc
  have hstart := step_of_startPending ⟨hp, hf, hpending⟩ hc
  have hstart' := step_of_startPending ⟨hp', hf', hpending'⟩ hc'
  have hsame : SameDecode (s.started c) (s'.started c) :=
    { config := hconfig.symm
      len := hlen.symm
      phase := rfl
      nrec := rfl
      fmtCause := rfl
      fault := hf'.trans hf.symm
      pending := rfl
      pending' := rfl
      records := fun i hi => absurd hi (Nat.not_lt_zero i)
      blocks := fun i j hi h4 h58 => (hblocks i j hi h4 h58).symm }
  obtain ⟨t', hrun', ht⟩ := hsame.run (registersConsistent_started hcap hc)
    ((run_succ_of_step (M := core) hstart n).symm.trans hrun)
  exact ⟨t', (run_succ_of_step (M := core) hstart' n).trans hrun', ht.runResult_eq, ht.fault⟩

end Sys2Proof.Machine
end

section
/-!
PROOFS, family 43_host_commands.md. Each host command as equations, one for each outcome, and its word by the
must-be-zero bits (R700 to R709).
-/

namespace Sys2Proof.Machine

/-! ## The frame of a command and of its word -/

theorem command_ok_of_noFault {s : State} (hf : s.fault = 0) (t : State) : command s (.ok t) = .next t := by
  rw [command_of_noFault hf, settle_ok]

/-- A word whose row has must-be-zero bits runs as the row's command or as a malformed word (R310). -/
theorem commandStep_of_decode_ifZero {w : HostWord} {n : Nat} {x : BitVec n} {op : BitVec 4} {i : Instr}
    (h : decode w = ifZero (x == 0) op i) (s : State) :
    commandStep w s = if x = 0 then exec i s else execMalformed op s := by
  split
  · rename_i hx
    exact commandStep_of_decode_ok (h.trans (ifZero_of_eq_zero hx)) s
  · rename_i hx
    exact commandStep_of_decode_error (h.trans (ifZero_eq_error.2 ⟨beq_eq_false_iff_ne.2 hx, rfl⟩)) s

theorem execMalformed_of_noFault {s : State} (hf : s.fault = 0) (op : BitVec 4) :
    execMalformed op s = .next { s with fault := 0b00001, rsp := some 0 } := by
  rw [execMalformed_eq, if_neg fun h => h.1 hf, raiseFault_of_noFault hf]
  rfl

/-- With no fault set, a set must-be-zero bit raises ILLEGAL_CMD, whatever the operation code (R803). -/
theorem commandStep_of_decode_ifZero_of_noFault {s : State} (hf : s.fault = 0) {w : HostWord} {n : Nat} {x : BitVec n}
    {op : BitVec 4} {i : Instr} (h : decode w = ifZero (x == 0) op i) :
    commandStep w s = if x = 0 then exec i s else .next { s with fault := 0b00001, rsp := some 0 } := by
  rw [commandStep_of_decode_ifZero h, execMalformed_of_noFault hf]

/-! ## The commands that only respond: NOP, RDLEN, RDNREC, RDSTAT, COMBINE -/

theorem exec_nop_of_noFault {s : State} (hf : s.fault = 0) : exec .nop s = .next (s.respond 0) :=
  command_ok_of_noFault hf _

theorem exec_rdlen_of_noFault {s : State} (hf : s.fault = 0) : exec .rdlen s = .next (s.respond (zext32 s.len)) :=
  command_ok_of_noFault hf _

theorem exec_rdnrec_of_noFault {s : State} (hf : s.fault = 0) : exec .rdnrec s = .next (s.respond (zext32 s.nrec)) :=
  command_ok_of_noFault hf _

theorem exec_combine_of_noFault {s : State} (hf : s.fault = 0) (l m : Byte) :
    exec (.combine l m) s = .next (s.respond (zext32 (combine l m))) :=
  command_ok_of_noFault hf _

/-- RDSTAT is outside the frame of the other commands, so FAULT does not matter (R809). -/
theorem exec_rdstat (s : State) : exec .rdstat s = .next (s.respond (statusWord s)) := rfl

/-- A malformed RDSTAT word is not refused under fault-stop, and ILLEGAL_CMD joins the bits that are set (R809). -/
theorem execMalformed_rdstat (s : State) : execMalformed 0x6 s = .next (s.raiseFault .illegalCmd) := by
  rw [execMalformed_eq, if_neg fun h => h.2 rfl]

/-- Settles O21: NOP's effect is a response of 0, and bits 27..0 of its word must be zero. -/
theorem nopCommand : Obligations.NopCommand := by
  intro s hf
  refine ⟨exec_nop_of_noFault hf, fun w hop => ?_⟩
  rw [commandStep_of_decode_ifZero_of_noFault hf (decode_of_op_nop hop), exec_nop_of_noFault hf]
  rfl

/-- Settles O25: each of the two responds with its register, and bits 27..0 of its word must be zero. -/
theorem registerReadCommands : Obligations.RegisterReadCommands := by
  intro s hf
  refine ⟨exec_rdlen_of_noFault hf, exec_rdnrec_of_noFault hf, fun w hop => ?_, fun w hop => ?_⟩
  · rw [commandStep_of_decode_ifZero_of_noFault hf (decode_of_op_rdlen hop), exec_rdlen_of_noFault hf]
    rfl
  · rw [commandStep_of_decode_ifZero_of_noFault hf (decode_of_op_rdnrec hop), exec_rdnrec_of_noFault hf]
    rfl

/-- Settles O26: neither RDSTAT nor a malformed word of its operation code is refused under fault-stop. -/
theorem rdstatCommand : Obligations.RdstatCommand := by
  intro s
  refine ⟨exec_rdstat s, rfl, fun w hop => ?_⟩
  rw [commandStep_of_decode_ifZero (decode_of_op_rdstat hop), exec_rdstat, execMalformed_rdstat]
  rfl

/-- Settles O29: COMBINE responds with the combiner's formula, and bits 27..16 of its word must be zero. -/
theorem combineCommand : Obligations.CombineCommand := fun _ hf =>
  ⟨exec_combine_of_noFault hf, fun _ hop => commandStep_of_decode_ifZero_of_noFault hf (decode_of_op_combine hop)⟩

/-! ## WRBUF -/

theorem exec_wrbuf_of_busy {s : State} (hf : s.fault = 0) (hp : s.phase = .busy) (a : Count) (d : Byte) :
    exec (.wrbuf a d) s = .next (s.raiseFault .busyViolation) := by
  show execWrbuf a d s = _
  unfold execWrbuf
  rw [command_of_noFault hf, if_pos hp, settle_error]

theorem exec_wrbuf_of_le {s : State} (hf : s.fault = 0) (hp : s.phase ≠ .busy) {a : Count}
    (ha : s.config.bufCap ≤ a.toNat) (d : Byte) : exec (.wrbuf a d) s = .next (s.raiseFault .range) := by
  show execWrbuf a d s = _
  unfold execWrbuf
  rw [command_of_noFault hf, if_neg hp, memWrite_of_le ha, settle_error]

theorem exec_wrbuf_of_lt {s : State} (hf : s.fault = 0) (hp : s.phase ≠ .busy) {a : Count}
    (ha : a.toNat < s.config.bufCap) (d : Byte) :
    exec (.wrbuf a d) s = .next ((s.setBuf (s.buf.write a.toNat d)).respond 0) := by
  show execWrbuf a d s = _
  unfold execWrbuf
  rw [command_of_noFault hf, if_neg hp, memWrite_of_lt ha, settle_ok]

/-- Settles O22: WRBUF by its three outcomes; every word of its operation code is one. -/
theorem wrbufCommand : Obligations.WrbufCommand := by
  intro s a d hf
  refine ⟨?_, Memory.read_write s.buf a.toNat d, fun w hop => commandStep_of_decode_ok (decode_of_op_wrbuf hop) s⟩
  by_cases hp : s.phase = .busy
  · rw [if_pos hp, exec_wrbuf_of_busy hf hp, raiseFault_of_noFault hf]
    rfl
  · rw [if_neg hp]
    by_cases ha : s.config.bufCap ≤ a.toNat
    · rw [if_pos ha, exec_wrbuf_of_le hf hp ha, raiseFault_of_noFault hf]
      rfl
    · rw [if_neg ha]
      exact exec_wrbuf_of_lt hf hp (Nat.lt_of_not_le ha) d

/-! ## RDBUF -/

theorem exec_rdbuf_of_error {s : State} (hf : s.fault = 0) {a : Count} {b : FaultBit}
    (h : memRead s a.toNat = .error b) : exec (.rdbuf a) s = .next (s.raiseFault b) := by
  show execRdbuf a s = _
  unfold execRdbuf
  rw [command_of_noFault hf, h, settle_error]

theorem exec_rdbuf_of_ok {s : State} (hf : s.fault = 0) {a : Count} {v : Byte} (h : memRead s a.toNat = .ok v) :
    exec (.rdbuf a) s = .next (s.respond (zext32 v)) := by
  show execRdbuf a s = _
  unfold execRdbuf
  rw [command_of_noFault hf, h, settle_ok]

/-- Settles O23: RDBUF by the outcomes of its one checked read, and its word by D, which must be zero. -/
theorem rdbufCommand : Obligations.RdbufCommand := by
  intro s a hf
  refine ⟨?_, fun w hop => commandStep_of_decode_ifZero_of_noFault hf (decode_of_op_rdbuf hop)⟩
  by_cases ha : s.config.bufCap ≤ a.toNat
  · have hrange : memRead s a.toNat = .error .range := memRead_eq_error.2 (.inl ⟨ha, rfl⟩)
    rw [if_pos ha, exec_rdbuf_of_error hf hrange, raiseFault_of_noFault hf]
    rfl
  · have hlt : a.toNat < s.config.bufCap := Nat.lt_of_not_le ha
    rw [if_neg ha]
    cases hr : s.buf.read a.toNat with
    | none =>
      have huninit : memRead s a.toNat = .error .uninitRead := memRead_eq_error.2 (.inr ⟨hlt, hr, rfl⟩)
      rw [exec_rdbuf_of_error hf huninit, raiseFault_of_noFault hf]
      rfl
    | some v => exact exec_rdbuf_of_ok hf (memRead_eq_ok.2 ⟨hlt, hr⟩)

/-! ## WRLEN -/

theorem exec_wrlen_of_busy {s : State} (hf : s.fault = 0) (hp : s.phase = .busy) (n : Count) :
    exec (.wrlen n) s = .next (s.raiseFault .busyViolation) := by
  show execWrlen n s = _
  unfold execWrlen
  rw [command_of_noFault hf, if_pos hp, settle_error]

theorem exec_wrlen_of_lt {s : State} (hf : s.fault = 0) (hp : s.phase ≠ .busy) {n : Count}
    (hn : s.config.bufCap < n.toNat) : exec (.wrlen n) s = .next (s.raiseFault .range) := by
  show execWrlen n s = _
  unfold execWrlen
  rw [command_of_noFault hf, if_neg hp, if_pos hn, settle_error]

theorem exec_wrlen_of_le {s : State} (hf : s.fault = 0) (hp : s.phase ≠ .busy) {n : Count}
    (hn : n.toNat ≤ s.config.bufCap) : exec (.wrlen n) s = .next ((s.setLen n).respond 0) := by
  show execWrlen n s = _
  unfold execWrlen
  rw [command_of_noFault hf, if_neg hp, if_neg (Nat.not_lt.2 hn), settle_ok]

/-- Settles O24: WRLEN by its three outcomes, and its word by D, which must be zero. -/
theorem wrlenCommand : Obligations.WrlenCommand := by
  intro s n hf
  refine ⟨?_, fun w hop => commandStep_of_decode_ifZero_of_noFault hf (decode_of_op_wrlen hop)⟩
  by_cases hp : s.phase = .busy
  · rw [if_pos hp, exec_wrlen_of_busy hf hp, raiseFault_of_noFault hf]
    rfl
  · rw [if_neg hp]
    by_cases hn : s.config.bufCap < n.toNat
    · rw [if_pos hn, exec_wrlen_of_lt hf hp hn, raiseFault_of_noFault hf]
      rfl
    · rw [if_neg hn]
      exact exec_wrlen_of_le hf hp (Nat.le_of_not_lt hn)

/-! ## RDREC -/

theorem exec_rdrecInstr_of_unreadable {s : State} (hf : s.fault = 0) {k : Count}
    (h : s.phase ≠ .done ∨ s.nrec.toNat ≤ k.toNat) (f : Field) :
    exec (rdrecInstr k f) s = .next (s.raiseFault .recAccess) := by
  rw [exec_rdrecInstr]
  unfold readRecord
  rw [command_of_noFault hf, if_pos h, settle_error]

theorem exec_rdrecInstr_of_readable {s : State} (hf : s.fault = 0) (hp : s.phase = .done) {k : Count}
    (hk : k.toNat < s.nrec.toNat) (f : Field) :
    exec (rdrecInstr k f) s = .next (s.respond ((s.record k.toNat).word f)) := by
  have hreadable : ¬(s.phase ≠ .done ∨ s.nrec.toNat ≤ k.toNat) := not_or.2 ⟨not_not.2 hp, Nat.not_le.2 hk⟩
  rw [exec_rdrecInstr]
  unfold readRecord
  rw [command_of_noFault hf, if_neg hreadable, settle_ok]

/-- The D operand of an RDREC word names the field of that id (R313). -/
theorem commandStep_of_op_rdrec {w : HostWord} (hop : cmdOp w = 0x8) {f : Field} (hid : f.id = cmdD w) (s : State) :
    commandStep w s = exec (rdrecInstr (cmdA w) f) s := by
  have hfield : Field.ofId (cmdD w) = some f := by rw [← hid, Field.ofId_id]
  exact commandStep_of_decode_ok (decode_of_op_rdrec hop hfield) s

/-- Settles O27: all 76 commands are one read of REC, guarded alike; D names the field or is reserved. -/
theorem rdrecCommands : Obligations.RdrecCommands := by
  intro s k hf
  refine ⟨fun f => ?_, fun w hop => ⟨fun hd => ?_, fun f hid => commandStep_of_op_rdrec hop hid s⟩⟩
  · by_cases h : s.phase ≠ .done ∨ s.nrec.toNat ≤ k.toNat
    · rw [if_pos h, exec_rdrecInstr_of_unreadable hf h, raiseFault_of_noFault hf]
      rfl
    · obtain ⟨hp, hk⟩ := not_or.1 h
      rw [if_neg h]
      exact exec_rdrecInstr_of_readable hf (not_not.1 hp) (Nat.not_le.1 hk) f
  · rw [commandStep_of_reserved_field hop hd]
    exact command_error_of_noFault hf .illegalCmd

end Sys2Proof.Machine
end

section
/-!
PROOFS, family 60_exceptions.md. What takes a fault and which one: the causes of a command's fault as one relation, the
reserved words, the turn of SEQ, and fault-stop (R802 to R814).
-/

namespace Sys2Proof.Machine

/-! ## The fault bits -/

/-- R110: each fault has a bit of its own. -/
theorem FaultBit.mask_inj {b c : FaultBit} : b.mask = c.mask ↔ b = c := by
  cases b <;> cases c <;> decide

theorem FaultBit.mask_ne_zero (b : FaultBit) : b.mask ≠ 0 := by cases b <;> decide

theorem raiseFault_fault_of_noFault {s : State} (hf : s.fault = 0) (b : FaultBit) :
    (s.raiseFault b).fault = b.mask := by rw [raiseFault_of_noFault hf]

theorem raiseSeqFault_fault_of_noFault {s : State} (hf : s.fault = 0) (b : FaultBit) :
    (s.raiseSeqFault b).fault = b.mask :=
  raiseFault_fault_of_noFault hf b

/-- Of the effects of a command, none touches FAULT. -/
theorem fault_of_effect {i : Instr} {s t : State} (h : CommandEffect s i t) : t.fault = s.fault := by
  cases h <;> rfl

/-! ## Every step keeps the shape of FAULT -/

/-- A second bit joins FAULT under fault-stop alone, and it is ILLEGAL_CMD (R809). -/
theorem faultShape_raiseFault {s : State} {b : FaultBit} (hs : FaultShape s)
    (hb : s.fault = 0 ∨ b = .illegalCmd) : FaultShape (s.raiseFault b) := by
  by_cases hf : s.fault = 0
  · exact .inr ⟨b, .inl (raiseFault_fault_of_noFault hf b)⟩
  · obtain rfl := hb.resolve_left hf
    obtain ⟨c, hc | hc⟩ := hs.resolve_left hf
    · exact .inr ⟨c, .inr (by rw [State.raiseFault_fault, hc])⟩
    · refine .inr ⟨c, .inr ?_⟩
      rw [State.raiseFault_fault, hc, BitVec.or_assoc, BitVec.or_self]

/-- FAULT changes by taking a fault and by reset alone. -/
theorem faultShape_keptByUpdates : KeptByUpdates FaultShape where
  reset := faultShape_resetWith
  setPending _ _ hs := hs
  respond _ _ hs := hs
  raiseFault _ _ hs hb := faultShape_raiseFault hs hb
  raiseSeqFault _ b _ _ hf := .inr ⟨b, .inl (raiseSeqFault_fault_of_noFault hf b)⟩
  storeRecord _ _ hs _ _ := hs
  writeByte _ _ _ hs _ _ := hs
  setLen _ _ hs _ _ := hs
  beginDecode _ _ hs _ _ := hs

/-- Settles O53: every state update keeps the shape of FAULT. -/
theorem faultShapeKept : Obligations.FaultShapeKept := fun _ _ hs h => faultShape_keptByUpdates.step hs h

/-! ## Fault-stop -/

/-- R809: under fault-stop every command but RDSTAT goes unserved. -/
theorem exec_of_faultStop {s : State} (hf : s.fault ≠ 0) {i : Instr} (hi : i ≠ .rdstat) :
    exec i s = .next (s.respond 0) := by
  cases i
  case rdstat => exact absurd rfl hi
  all_goals exact command_of_faultStop hf _

/-- R809 for a word, malformed or not: its operation code alone decides whether it is served. -/
theorem commandStep_of_faultStop {s : State} (hf : s.fault ≠ 0) {w : HostWord} (hop : cmdOp w ≠ 0x6) :
    commandStep w s = .next (s.respond 0) := by
  cases hdecode : decode w with
  | ok i =>
    have hi : i ≠ .rdstat := by
      rintro rfl
      obtain ⟨rfl, -⟩ := encode_of_decode hdecode
      exact hop (cmdOp_commandWord _ _ _)
    rw [commandStep_of_decode_ok hdecode, exec_of_faultStop hf hi]
  | error e =>
    obtain ⟨-, rfl⟩ := decode_eq_error.1 hdecode
    rw [commandStep_of_decode_error hdecode, execMalformed_eq, if_pos ⟨hf, hop⟩]

theorem step_of_pending_reset {s : State} (h : s.pending.head? = some .reset) :
    step s = .next ((State.resetWith s.config).setPending s.pending.tail) := by
  obtain ⟨rest, hp⟩ := List.head?_eq_some_iff.1 h
  rw [step_of_pending_cons hp, hp]
  rfl

/-- R813: of all effects of a step, reset alone clears FAULT. -/
theorem pending_reset_of_fault_cleared {s t : State} (hf : s.fault ≠ 0) (h : step s = .next t) (ht : t.fault = 0) :
    s.pending.head? = some .reset := by
  obtain rfl | ⟨-, hnoFault, -⟩ | ⟨-, hnoFault, -⟩ | ⟨hreset, -⟩ | ⟨-, rfl⟩ | ⟨b, -, rfl⟩ | ⟨w, i, -, -, -, heffect⟩ :=
    step_effects h rfl
  · exact absurd ht hf
  · exact absurd hnoFault hf
  · exact absurd hnoFault hf
  · exact hreset
  · exact absurd ht hf
  · exact absurd (BitVec.or_eq_zero_iff.1 ht).1 hf
  · exact absurd ((fault_of_effect heffect).symm.trans ht) hf

/-- Settles O33: the frame of a command refuses all but RDSTAT's operation code, and reset alone clears FAULT. -/
theorem faultStopRefusesAllButRdstat : Obligations.FaultStopRefusesAllButRdstat := by
  intro s hf
  refine ⟨seqTurn_of_disabled (.inr hf), fun i hi => exec_of_faultStop hf hi,
    fun w hop => commandStep_of_faultStop hf hop, exec_rdstat s, fun w hop hlow => ?_, fun t h => ⟨?_, fun hr => ?_⟩,
    fun hr => ⟨_, step_of_pending_reset hr, rfl⟩⟩
  · rw [commandStep_of_decode_ifZero (decode_of_op_rdstat hop), if_neg hlow, execMalformed_rdstat]
    rfl
  · exact pending_reset_of_fault_cleared hf h
  · cases (step_of_pending_reset hr).symm.trans h
    rfl

/-! ## Taking a fault is precise -/

theorem eq_raiseFault_of_commandStep {w : HostWord} {s t : State} (h : commandStep w s = .next t)
    (hfault : t.fault ≠ s.fault) : ∃ b, t = s.raiseFault b := by
  obtain ⟨i, -, hexec⟩ | ⟨op, -, hmalformed⟩ := commandStep_cases h
  · obtain ⟨-, -, rfl⟩ | ⟨-, hb⟩ | ⟨-, heffect⟩ := exec_cases hexec
    · exact absurd rfl hfault
    · exact hb
    · exact absurd (fault_of_effect heffect) hfault
  · obtain ⟨-, -, rfl⟩ | ⟨-, rfl⟩ := execMalformed_cases hmalformed
    · exact absurd rfl hfault
    · exact ⟨_, rfl⟩

theorem eq_raiseSeqFault_of_seqTurn {s t : State} (h : seqTurn s = .next t) (hfault : t.fault ≠ s.fault) :
    ∃ b, t = s.raiseSeqFault b := by
  obtain ⟨-, rfl⟩ | ⟨-, -, hstep⟩ := seqTurn_cases h
  · exact absurd rfl hfault
  · obtain ⟨b, -, rfl⟩ | ⟨blk, -, -, rfl⟩ := seqStep_cases hstep
    · exact ⟨b, rfl⟩
    · exact absurd rfl hfault

/-- Settles O34: a command and a turn of SEQ change FAULT by taking a fault alone. -/
theorem faultEntryIsPrecise : Obligations.FaultEntryIsPrecise := fun _ _ =>
  ⟨fun _ h hfault => eq_raiseFault_of_commandStep h hfault, fun h hfault => eq_raiseSeqFault_of_seqTurn h hfault⟩

/-! ## The faults of checked reads -/

/-- A run of reads faults by one of its reads. -/
theorem memReadMany_eq_error {s : State} {a n : Nat} {b : FaultBit} (h : memReadMany s a n = .error b) :
    ∃ j, j < n ∧ memRead s (a + j) = .error b := by
  induction n generalizing a with
  | zero => cases h
  | succ n ih =>
    unfold memReadMany at h
    split at h
    · rename_i hfirst
      cases h
      exact ⟨0, Nat.zero_lt_succ n, hfirst⟩
    · split at h
      · rename_i hrest
        cases h
        obtain ⟨j, hj, hread⟩ := ih hrest
        exact ⟨j + 1, Nat.succ_lt_succ hj, by rwa [Nat.add_assoc, Nat.add_comm 1 j] at hread⟩
      · cases h

/-- The format check faults by its reads of BUF[0..3] alone (R601). -/
theorem fmtCheck_eq_error {s : State} {b : FaultBit} (h : fmtCheck s = .error b) :
    4 ≤ s.len.toNat ∧ ∃ j, j < 4 ∧ memRead s j = .error b := by
  unfold fmtCheck at h
  split at h
  · cases h
  · rename_i hlen
    split at h
    · rename_i hreads
      cases h
      obtain ⟨j, hj, hread⟩ := memReadMany_eq_error hreads
      exact ⟨Nat.le_of_not_lt hlen, j, hj, by rwa [Nat.zero_add] at hread⟩
    · cases h

theorem fmtCheck_error_cases {s : State} {b : FaultBit} (h : fmtCheck s = .error b) :
    b = .range ∨ b = .uninitRead := by
  obtain ⟨-, j, -, hread⟩ := fmtCheck_eq_error h
  obtain ⟨-, hb⟩ | ⟨-, -, hb⟩ := memRead_eq_error.1 hread
  · exact .inl hb
  · exact .inr hb

/-- With LEN at most BUF_CAP the four reads are in range, so an unwritten byte is all that can be wrong. -/
theorem fmtCheck_eq_error_iff {s : State} (hlen : s.len.toNat ≤ s.config.bufCap) {b : FaultBit} :
    fmtCheck s = .error b ↔ 4 ≤ s.len.toNat ∧ (∃ j, j < 4 ∧ s.bufValid j = false) ∧ b = .uninitRead := by
  constructor
  · intro h
    obtain ⟨hfour, j, hj, hread⟩ := fmtCheck_eq_error h
    obtain ⟨hcap, -⟩ | ⟨-, hnone, hb⟩ := memRead_eq_error.1 hread
    · omega
    · exact ⟨hfour, ⟨j, hj, bufValid_eq_false.2 hnone⟩, hb⟩
  · rintro ⟨hfour, ⟨j, hj, hnone⟩, rfl⟩
    exact fmtCheck_of_unwritten (hfour.trans hlen) hfour hj (bufValid_eq_false.1 hnone)

/-! ## The causes of a command's fault -/

/-- The faults of a command, each by its cause (R803 to R807); the checks come in the order of R810. -/
inductive CommandFault (s : State) : Instr → FaultBit → Prop where
  | wrbufBusy (a : Count) (d : Byte) (hp : s.phase = .busy) : CommandFault s (.wrbuf a d) .busyViolation
  | wrbufRange (a : Count) (d : Byte) (hp : s.phase ≠ .busy) (ha : s.config.bufCap ≤ a.toNat) :
      CommandFault s (.wrbuf a d) .range
  | wrlenBusy (n : Count) (hp : s.phase = .busy) : CommandFault s (.wrlen n) .busyViolation
  | wrlenRange (n : Count) (hp : s.phase ≠ .busy) (hn : s.config.bufCap < n.toNat) : CommandFault s (.wrlen n) .range
  | rdbufRange (a : Count) (ha : s.config.bufCap ≤ a.toNat) : CommandFault s (.rdbuf a) .range
  | rdbufUnwritten (a : Count) (ha : a.toNat < s.config.bufCap) (hr : s.buf.read a.toNat = none) :
      CommandFault s (.rdbuf a) .uninitRead
  | startBusy (hp : s.phase = .busy) : CommandFault s .start .busyViolation
  | startCheck (b : FaultBit) (hp : s.phase ≠ .busy) (hc : fmtCheck s = .error b) : CommandFault s .start b
  | rdrecUnreadable (k : Count) (f : Field) (h : s.phase ≠ .done ∨ s.nrec.toNat ≤ k.toNat) :
      CommandFault s (rdrecInstr k f) .recAccess
  | reservedField (i : Instr)
      (hi : (∃ k f, i = .rdrecReserved4C k f) ∨ (∃ k f, i = .rdrecReserved50 k f) ∨
        (∃ k f, i = .rdrecReserved60 k f) ∨ ∃ k f, i = .rdrecReserved80 k f) : CommandFault s i .illegalCmd
  | reservedOpAB (op : BitVec 4) (low : BitVec 28) : CommandFault s (.reservedOpAB op low) .illegalCmd
  | reservedOpCF (op : BitVec 4) (low : BitVec 28) : CommandFault s (.reservedOpCF op low) .illegalCmd

/-- With no fault set, each cause makes the command take its fault. -/
theorem exec_of_commandFault {i : Instr} {s : State} {b : FaultBit} (hf : s.fault = 0) (h : CommandFault s i b) :
    exec i s = .next (s.raiseFault b) := by
  have illegal : command s (.error .illegalCmd) = .next (s.raiseFault .illegalCmd) := command_of_noFault hf _
  cases h with
  | wrbufBusy a d hp => exact exec_wrbuf_of_busy hf hp a d
  | wrbufRange a d hp ha => exact exec_wrbuf_of_le hf hp ha d
  | wrlenBusy n hp => exact exec_wrlen_of_busy hf hp n
  | wrlenRange n hp hn => exact exec_wrlen_of_lt hf hp hn
  | rdbufRange a ha => exact exec_rdbuf_of_error hf (memRead_eq_error.2 (.inl ⟨ha, rfl⟩))
  | rdbufUnwritten a ha hr => exact exec_rdbuf_of_error hf (memRead_eq_error.2 (.inr ⟨ha, hr, rfl⟩))
  | startBusy hp => exact exec_start_of_busy hf hp
  | startCheck b hp hc => exact exec_start_of_check_error hf hp hc
  | rdrecUnreadable k f h => exact exec_rdrecInstr_of_unreadable hf h f
  | reservedField i hi => obtain ⟨k, f, rfl⟩ | ⟨k, f, rfl⟩ | ⟨k, f, rfl⟩ | ⟨k, f, rfl⟩ := hi <;> exact illegal
  | reservedOpAB op low => exact illegal
  | reservedOpCF op low => exact illegal

/-- The causes are complete: without one, a command leaves FAULT as it is. -/
theorem commandFault_or_fault_kept (i : Instr) {s : State} (hf : s.fault = 0) :
    (∃ b, CommandFault s i b) ∨ ∃ t, exec i s = .next t ∧ t.fault = s.fault := by
  obtain rfl | ⟨a, d, rfl⟩ | ⟨a, rfl⟩ | ⟨n, rfl⟩ | rfl | rfl | rfl | rfl | ⟨l, m, rfl⟩ | ⟨k, f, rfl⟩ | hreserved |
    ⟨op, low, rfl⟩ | ⟨op, low, rfl⟩ := instr_cases i
  · exact .inr ⟨_, exec_nop_of_noFault hf, rfl⟩
  · by_cases hp : s.phase = .busy
    · exact .inl ⟨_, .wrbufBusy a d hp⟩
    · by_cases ha : s.config.bufCap ≤ a.toNat
      · exact .inl ⟨_, .wrbufRange a d hp ha⟩
      · exact .inr ⟨_, exec_wrbuf_of_lt hf hp (Nat.lt_of_not_le ha) d, rfl⟩
  · cases hread : memRead s a.toNat with
    | error b =>
      obtain ⟨ha, -⟩ | ⟨ha, hr, -⟩ := memRead_eq_error.1 hread
      · exact .inl ⟨_, .rdbufRange a ha⟩
      · exact .inl ⟨_, .rdbufUnwritten a ha hr⟩
    | ok v => exact .inr ⟨_, exec_rdbuf_of_ok hf hread, rfl⟩
  · by_cases hp : s.phase = .busy
    · exact .inl ⟨_, .wrlenBusy n hp⟩
    · by_cases hn : s.config.bufCap < n.toNat
      · exact .inl ⟨_, .wrlenRange n hp hn⟩
      · exact .inr ⟨_, exec_wrlen_of_le hf hp (Nat.le_of_not_lt hn), rfl⟩
  · exact .inr ⟨_, exec_rdlen_of_noFault hf, rfl⟩
  · by_cases hp : s.phase = .busy
    · exact .inl ⟨_, .startBusy hp⟩
    · cases hc : fmtCheck s with
      | error b => exact .inl ⟨b, .startCheck b hp hc⟩
      | ok c => exact .inr ⟨_, exec_start_of_check_ok hf hp hc, rfl⟩
  · exact .inr ⟨_, exec_rdstat s, rfl⟩
  · exact .inr ⟨_, exec_rdnrec_of_noFault hf, rfl⟩
  · exact .inr ⟨_, exec_combine_of_noFault hf l m, rfl⟩
  · by_cases h : s.phase ≠ .done ∨ s.nrec.toNat ≤ k.toNat
    · exact .inl ⟨_, .rdrecUnreadable k f h⟩
    · obtain ⟨hp, hk⟩ := not_or.1 h
      exact .inr ⟨_, exec_rdrecInstr_of_readable hf (not_not.1 hp) (Nat.not_le.1 hk) f, rfl⟩
  · exact .inl ⟨_, .reservedField i hreserved⟩
  · exact .inl ⟨_, .reservedOpAB op low⟩
  · exact .inl ⟨_, .reservedOpCF op low⟩

/-- With no fault set, the bit found in FAULT after a command names the cause. -/
theorem fault_eq_mask_iff {i : Instr} {s t : State} (hf : s.fault = 0) (h : exec i s = .next t) (b : FaultBit) :
    t.fault = b.mask ↔ CommandFault s i b := by
  have raised : ∀ c, CommandFault s i c → t.fault = c.mask := by
    intro c hc
    cases (exec_of_commandFault hf hc).symm.trans h
    exact raiseFault_fault_of_noFault hf c
  refine ⟨fun ht => ?_, raised b⟩
  obtain ⟨c, hc⟩ | ⟨u, hu, hkept⟩ := commandFault_or_fault_kept i hf
  · obtain rfl := FaultBit.mask_inj.1 (ht.symm.trans (raised c hc))
    exact hc
  · cases hu.symm.trans h
    exact absurd (ht.symm.trans (hkept.trans hf)) b.mask_ne_zero

/-! ## ILLEGAL_CMD -/

/-- R803: the encodings that raise ILLEGAL_CMD. -/
def ReservedEncoding (w : HostWord) : Prop :=
  0xA ≤ (cmdOp w).toNat ∨ MustBeZeroBitSet w ∨ (cmdOp w = 0x8 ∧ 0x4C ≤ (cmdD w).toNat)

/-- The encodings one by one, as R803 lists them. -/
theorem reservedEncoding_iff {w : HostWord} :
    ReservedEncoding w ↔
      0xA ≤ (cmdOp w).toNat ∨
        ((cmdOp w = 0x0 ∨ cmdOp w = 0x4 ∨ cmdOp w = 0x5 ∨ cmdOp w = 0x6 ∨ cmdOp w = 0x7) ∧ cmdLow w ≠ 0) ∨
        ((cmdOp w = 0x2 ∨ cmdOp w = 0x3) ∧ cmdD w ≠ 0) ∨ (cmdOp w = 0x9 ∧ cmdHigh w ≠ 0) ∨
        (cmdOp w = 0x8 ∧ 0x4C ≤ (cmdD w).toNat) := by
  unfold ReservedEncoding MustBeZeroBitSet
  rw [or_assoc, or_assoc]

theorem commandStep_of_reservedEncoding {s : State} (hf : s.fault = 0) {w : HostWord} (hw : ReservedEncoding w) :
    commandStep w s = .next { s with fault := 0b00001, rsp := some 0 } := by
  obtain hop | hzero | ⟨hop, hd⟩ := hw
  · rw [commandStep_of_op_reserved hop]
    exact command_error_of_noFault hf .illegalCmd
  · rw [commandStep_of_decode_error (decode_eq_error.2 ⟨hzero, rfl⟩), execMalformed_of_noFault hf]
  · rw [commandStep_of_reserved_field hop hd]
    exact command_error_of_noFault hf .illegalCmd

/-- A word decodes to a command whose cause is ILLEGAL_CMD from a reserved field id or operation code alone. -/
theorem reservedEncoding_of_decode {s : State} {w : HostWord} {i : Instr} (hdecode : decode w = .ok i)
    (h : CommandFault s i .illegalCmd) : ReservedEncoding w := by
  obtain ⟨rfl, hwf⟩ := encode_of_decode hdecode
  cases h with
  | startCheck _ _ hc => exact absurd (fmtCheck_error_cases hc) (by decide)
  | reservedField i hi =>
    obtain ⟨k, f, hid, rfl⟩ := eq_reservedFieldInstr_of_wellFormed hi hwf
    refine .inr (.inr ?_)
    rw [encode_reservedFieldInstr, cmdOp_commandWord, cmdD_commandWord]
    exact ⟨rfl, hid⟩
  | reservedOpAB op low =>
    have hop : op = 0xA ∨ op = 0xB := by simpa [Instr.wellFormed] using hwf
    refine .inl ?_
    change 0xA ≤ (cmdOp (reservedWord op low)).toNat
    rw [cmdOp_reservedWord]
    rcases hop with rfl | rfl <;> decide
  | reservedOpCF op low =>
    have hop : 0xC ≤ op.toNat := by simpa [Instr.wellFormed] using hwf
    refine .inl ?_
    change 0xA ≤ (cmdOp (reservedWord op low)).toNat
    rw [cmdOp_reservedWord]
    omega

/-- Settles O35: a word is malformed or decodes, and then its command's cause is a reserved row. -/
theorem illegalCmdExactly : Obligations.IllegalCmdExactly := by
  intro s t w hf h
  have raised : ReservedEncoding w → t = { s with fault := 0b00001, rsp := some 0 } := by
    intro hw
    cases (commandStep_of_reservedEncoding hf hw).symm.trans h
    rfl
  have reserved : t.fault = 0b00001 → ReservedEncoding w := by
    intro ht
    obtain ⟨i, hdecode, hexec⟩ | ⟨op, hdecode, -⟩ := commandStep_cases h
    · exact reservedEncoding_of_decode hdecode ((fault_eq_mask_iff hf hexec .illegalCmd).1 ht)
    · exact .inr (.inl (decode_eq_error.1 hdecode).1)
  refine ⟨Iff.trans ⟨reserved, fun hw => ?_⟩ reservedEncoding_iff, fun ht => raised (reserved ht)⟩
  rw [raised hw]

/-! ## BUSY_VIOLATION, RANGE, REC_ACCESS, UNINIT_READ in a command -/

/-- Settles O36: the causes of BUSY_VIOLATION, one for each of the three commands. -/
theorem busyViolationExactly : Obligations.BusyViolationExactly := by
  intro i s t hf h
  refine (fault_eq_mask_iff hf h .busyViolation).trans ⟨fun hb => ?_, ?_⟩
  · cases hb with
    | wrbufBusy a d hp => exact ⟨hp, .inl ⟨a, d, rfl⟩⟩
    | wrlenBusy n hp => exact ⟨hp, .inr (.inl ⟨n, rfl⟩)⟩
    | startBusy hp => exact ⟨hp, .inr (.inr rfl)⟩
    | startCheck _ _ hc => exact absurd (fmtCheck_error_cases hc) (by decide)
  · rintro ⟨hp, ⟨a, d, rfl⟩ | ⟨n, rfl⟩ | rfl⟩
    · exact .wrbufBusy a d hp
    · exact .wrlenBusy n hp
    · exact .startBusy hp

/-- Settles O38: REC_ACCESS has one cause. -/
theorem recAccessExactly : Obligations.RecAccessExactly := by
  intro i s t hf h
  refine (fault_eq_mask_iff hf h .recAccess).trans ⟨fun hb => ?_, ?_⟩
  · cases hb with
    | startCheck _ _ hc => exact absurd (fmtCheck_error_cases hc) (by decide)
    | rdrecUnreadable k f hk => exact ⟨k, f, rfl, hk⟩
  · rintro ⟨k, f, rfl, hk⟩
    exact .rdrecUnreadable k f hk

/-! ## The turn of SEQ -/

/-- R807: SEQ is at a block of which it would read an unwritten byte. -/
def SeqMeetsUnwritten (s : State) : Prop :=
  s.phase = .busy ∧ ∃ j, 4 ≤ j ∧ j ≤ 58 ∧ s.bufValid (60 * s.nrec.toNat + j) = false

/-- With no fault set and consistent registers, a turn of SEQ raises UNINIT_READ or no fault. -/
theorem seqTurn_fault_cases {s t : State} (hs : RegistersConsistent s) (hf : s.fault = 0) (h : seqTurn s = .next t) :
    (SeqMeetsUnwritten s ∧ t.fault = FaultBit.uninitRead.mask) ∨ (¬SeqMeetsUnwritten s ∧ t.fault = 0) := by
  by_cases hu : SeqMeetsUnwritten s
  · obtain ⟨hp, j, h4, h58, hj⟩ := hu
    cases (seqTurn_of_unwritten hs hp hf h4 h58 (bufValid_eq_false.1 hj)).symm.trans h
    exact .inl ⟨⟨hp, j, h4, h58, hj⟩, raiseSeqFault_fault_of_noFault hf _⟩
  · refine .inr ⟨hu, ?_⟩
    by_cases hp : s.phase = .busy
    · have hwritten : ∀ j, 4 ≤ j → j ≤ 58 → s.bufValid (60 * s.nrec.toNat + j) = true := fun j h4 h58 =>
        Bool.eq_true_of_not_eq_false fun hj => hu ⟨hp, j, h4, h58, hj⟩
      cases (seqTurn_of_written hs hp hf hwritten).symm.trans h
      exact hf
    · cases (seqTurn_of_disabled (.inl hp)).symm.trans h
      exact hf

theorem seqTurn_fault_eq_uninitRead_iff {s t : State} (hs : RegistersConsistent s) (hf : s.fault = 0)
    (h : seqTurn s = .next t) : t.fault = FaultBit.uninitRead.mask ↔ SeqMeetsUnwritten s := by
  obtain ⟨hu, ht⟩ | ⟨hu, ht⟩ := seqTurn_fault_cases hs hf h
  · exact iff_of_true ht hu
  · exact iff_of_false (fun hm => FaultBit.mask_ne_zero _ (hm.symm.trans ht)) hu

/-- Settles O37: the causes of RANGE. With LEN at most BUF_CAP the reads of START and of SEQ are in range. -/
theorem rangeExactly : Obligations.RangeExactly := by
  refine ⟨fun i s t ⟨hlen, _⟩ hf h => (fault_eq_mask_iff hf h .range).trans ⟨fun hb => ?_, ?_⟩,
    fun s t hs hf h ht => ?_⟩
  · cases hb with
    | wrbufRange a d hp ha => exact .inl ⟨hp, a, d, rfl, ha⟩
    | wrlenRange n hp hn => exact .inr (.inr ⟨hp, n, rfl, hn⟩)
    | rdbufRange a ha => exact .inr (.inl ⟨a, rfl, ha⟩)
    | startCheck _ _ hc =>
      obtain ⟨-, -, hb⟩ := (fmtCheck_eq_error_iff hlen).1 hc
      cases hb
  · rintro (⟨hp, a, d, rfl, ha⟩ | ⟨a, rfl, ha⟩ | ⟨hp, n, rfl, hn⟩)
    · exact .wrbufRange a d hp ha
    · exact .rdbufRange a ha
    · exact .wrlenRange n hp hn
  · have hrange : t.fault = FaultBit.range.mask := ht
    obtain ⟨-, huninit⟩ | ⟨-, hzero⟩ := seqTurn_fault_cases hs hf h
    · cases FaultBit.mask_inj.1 (hrange.symm.trans huninit)
    · exact FaultBit.mask_ne_zero _ (hrange.symm.trans hzero)

/-- Settles O39: the causes of UNINIT_READ, in RDBUF, in the format check of START and in a turn of SEQ. -/
theorem uninitReadExactly : Obligations.UninitReadExactly := by
  refine ⟨fun i s t ⟨hlen, _⟩ hf h => (fault_eq_mask_iff hf h .uninitRead).trans ⟨fun hb => ?_, ?_⟩,
    fun s t hs hf h => seqTurn_fault_eq_uninitRead_iff hs hf h⟩
  · cases hb with
    | rdbufUnwritten a ha hr => exact .inl ⟨a, rfl, ha, bufValid_eq_false.2 hr⟩
    | startCheck _ hp hc =>
      obtain ⟨hfour, hunwritten, -⟩ := (fmtCheck_eq_error_iff hlen).1 hc
      exact .inr ⟨rfl, hp, hfour, hunwritten⟩
  · rintro (⟨a, rfl, ha, hr⟩ | ⟨rfl, hp, hfour, hunwritten⟩)
    · exact .rdbufUnwritten a ha (bufValid_eq_false.1 hr)
    · exact .startCheck _ hp ((fmtCheck_eq_error_iff hlen).2 ⟨hfour, hunwritten, rfl⟩)

/-! ## One fault at a time -/

/-- R811: from FAULT = 0, a step takes at most one fault. -/
theorem step_fault_of_noFault {s t : State} (hf : s.fault = 0) (h : step s = .next t) :
    t.fault = 0 ∨ ∃ b : FaultBit, t.fault = b.mask := by
  obtain rfl | ⟨-, -, b, -, rfl⟩ | ⟨-, -, blk, -, -, rfl⟩ | ⟨-, rfl⟩ | ⟨-, rfl⟩ | ⟨b, -, rfl⟩ |
    ⟨w, i, -, -, -, heffect⟩ := step_effects h rfl
  · exact .inl hf
  · exact .inr ⟨b, raiseSeqFault_fault_of_noFault hf b⟩
  · exact .inl hf
  · exact .inl rfl
  · exact .inl hf
  · exact .inr ⟨b, raiseFault_fault_of_noFault hf b⟩
  · exact .inl ((fault_of_effect heffect).trans hf)

/-- Settles O40: a step takes one fault at most; the reserved encodings come before every other check, and BUSY before
the range (R810). -/
theorem oneFaultBitAtATime : Obligations.OneFaultBitAtATime := by
  refine ⟨fun s t hf h => step_fault_of_noFault hf h, fun s t w hf hw h => ?_, fun s t a d hf hp _ h => ?_⟩
  · cases (commandStep_of_reservedEncoding hf (reservedEncoding_iff.2 hw)).symm.trans h
    rfl
  · exact (fault_eq_mask_iff hf h .busyViolation).2 (.wrbufBusy a d hp)

end Sys2Proof.Machine
end

section
/-!
PROOFS, family 70_reset_and_hazards.md. What reset gives: the reset values of the state, from any state before it (R900,
R902).
-/

namespace Sys2Proof.Machine

/-! ## The state after reset -/

/-- R900's table, read from one state: the registers at 0 or IDLE, no byte of BUF written, no response. -/
structure HasResetValues (s : State) : Prop where
  len : s.len = 0
  phase : s.phase = .idle
  nrec : s.nrec = 0
  fmtCause : s.fmtCause = 0
  fault : s.fault = 0
  unwritten : ∀ a, s.bufValid a = false
  rsp : s.rsp = none

/-- In every configuration, and whatever events are still to come. -/
theorem hasResetValues_resetWith (c : Config) (l : List Event) :
    HasResetValues ((State.resetWith c).setPending l) where
  len := State.resetWith_len c
  phase := State.resetWith_phase c
  nrec := State.resetWith_nrec c
  fmtCause := State.resetWith_fmtCause c
  fault := State.resetWith_fault c
  unwritten _ := bufValid_eq_false.2 rfl
  rsp := State.resetWith_rsp c

/-- A reset has no precondition: it takes effect from BUSY and under fault-stop too (R900). -/
theorem hasResetValues_of_reset {s t : State} {rest : List Event} (hp : s.pending = .reset :: rest)
    (h : step s = .next t) : HasResetValues t := by
  have hreset : step s = .next ((State.resetWith s.config).setPending rest) := step_of_pending_cons hp
  cases hreset.symm.trans h
  exact hasResetValues_resetWith s.config rest

/-- SEQ has work in BUSY alone. -/
theorem seqEnabled_of_not_busy {s : State} (h : s.phase ≠ .busy) : seqEnabled s = false :=
  Bool.eq_false_iff.2 fun he => h (seqEnabled_iff.1 he).1

/-- Settles O48: a reset step and `State.reset` both end in a state with the reset values, where SEQ is not enabled
because STATE is IDLE. -/
theorem resetClearsTheBlock : Obligations.ResetClearsTheBlock := by
  refine ⟨fun s t rest hp h => ?_, ?_⟩
  · have ht := hasResetValues_of_reset hp h
    have hidle : t.phase ≠ .busy := by simp [ht.phase]
    exact ⟨ht.len, ht.phase, ht.nrec, ht.fmtCause, ht.fault, ht.unwritten, ht.rsp, seqEnabled_of_not_busy hidle⟩
  · have hr : HasResetValues State.reset := hasResetValues_resetWith Config.reference []
    exact ⟨hr.len, hr.phase, hr.nrec, hr.fmtCause, hr.fault, hr.unwritten, hr.rsp, rfl, rfl⟩

end Sys2Proof.Machine
end
